-- ==== Sys2Proof/Word.lean ====
section
/-! DEFINITION. The word types of the HB-1000 Signal Conditioner Block: the widths the spec gives its command
words, serial bytes, samples, index fields, timestamps and address bytes. -/

namespace Sys2Proof

/-- A 32-bit command word, and the width of RDATA (30_encoding.md R80, 10_state.md R20). -/
abbrev Word := BitVec 32

/-- A serial byte, inbound or outbound (20_memory.md R64). -/
abbrev Byte := BitVec 8

/-- A 7-bit data byte of a serial message: an address, size or id byte (10_state.md R37, R44). -/
abbrev Data7 := BitVec 7

/-- A 10-bit analog sample or conditioned value (10_state.md R23, R32). -/
abbrev Sample := BitVec 10

/-- A 10-bit index field of a command word (30_encoding.md R83). -/
abbrev Index := BitVec 10

/-- A 32-bit millisecond time or timestamp (10_state.md R25). -/
abbrev Time := BitVec 32

end Sys2Proof
end

