-- ==== Sys2Proof/Syntax.lean ====
section
/-! DEFINITION. The HBSC command set, version 1: the 32 commands of 30_encoding.md R84 as one inductive, their
mnemonics and their nine formats (R81). Every operand has exactly the width of its field, so no term of `Instr`
holds an operand that its encoding cannot carry. -/

namespace Sys2Proof

/-- The nine command formats (30_encoding.md R81). -/
inductive Format where
  | N | X | V | H | B | T | P | A | I
  deriving DecidableEq, Repr

/-- The 32 mnemonics of 30_encoding.md R84, in the table's order. -/
inductive Mnemonic where
  | nop
  | anRead
  | anGet
  | anChanged
  | anCal
  | anCalrd
  | smUpdate
  | smReset
  | norm
  | hyst
  | btPoll
  | btState
  | btPressed
  | btReleased
  | rxByte
  | rxRd
  | rxDt1
  | csClr
  | csAdd
  | csGen
  | csVer
  | txCc
  | txPc
  | txDt1
  | txRq1
  | txSeta
  | txSets
  | pdUpdate
  | pdGet
  | pdPrev
  | crRd
  | crWr
  deriving DecidableEq, Repr

/-- The commands, one constructor per row of 30_encoding.md R84, operands in the order of the format's fields from
bit 25 down (R89). -/
inductive Instr where
  /-- NOP: do nothing (44_control.md R240). -/
  | nop
  /-- AN_READ: read, condition and cache one channel (40_analog.md R110). -/
  | anRead (ch : BitVec 10)
  /-- AN_GET: read the cached value (40_analog.md R111). -/
  | anGet (ch : BitVec 10)
  /-- AN_CHANGED: read and clear the change flag (40_analog.md R112). -/
  | anChanged (ch : BitVec 10)
  /-- AN_CAL: calibrate every channel (40_analog.md R116). -/
  | anCal
  /-- AN_CALRD: read a channel's calibration range (40_analog.md R117). -/
  | anCalrd (ch : BitVec 10)
  /-- SM_UPDATE: feed one sample to a channel's smoother (40_analog.md R113). -/
  | smUpdate (ch : BitVec 10) (v : BitVec 10)
  /-- SM_RESET: reset one channel's smoother (40_analog.md R114). -/
  | smReset (ch : BitVec 10)
  /-- NORM: normalize a value against a channel's calibration (40_analog.md R115). -/
  | norm (ch : BitVec 10) (v : BitVec 10)
  /-- HYST: apply the hysteresis comparator to explicit operands (40_analog.md R118). -/
  | hyst (cur : BitVec 10) (prev : BitVec 10) (thr : BitVec 6)
  /-- BT_POLL: sample every button and debounce (41_buttons.md R144). -/
  | btPoll
  /-- BT_STATE: read one debounced level (41_buttons.md R145). -/
  | btState (i : BitVec 10)
  /-- BT_PRESSED: read one press edge (41_buttons.md R146). -/
  | btPressed (i : BitVec 10)
  /-- BT_RELEASED: read one release edge (41_buttons.md R147). -/
  | btReleased (i : BitVec 10)
  /-- RX_BYTE: feed one inbound byte to the framer (42_serial.md R163). -/
  | rxByte (b : BitVec 8)
  /-- RX_RD: read one byte of the latched message (42_serial.md R166). -/
  | rxRd (k : BitVec 10)
  /-- RX_DT1: parse the latched message as a Data-Set (42_serial.md R167). -/
  | rxDt1
  /-- CS_CLR: clear the checksum accumulator (42_serial.md R171). -/
  | csClr
  /-- CS_ADD: add one byte to the accumulator (42_serial.md R172). -/
  | csAdd (b : BitVec 8)
  /-- CS_GEN: produce the checksum of the accumulated bytes (42_serial.md R173). -/
  | csGen
  /-- CS_VER: verify a received checksum (42_serial.md R174). -/
  | csVer (c : BitVec 8)
  /-- TX_CC: send a Control Change for a slot (42_serial.md R181). -/
  | txCc (p : BitVec 10) (a : BitVec 8) (b : BitVec 8)
  /-- TX_PC: send a Program Change (42_serial.md R182). -/
  | txPc (b : BitVec 8)
  /-- TX_DT1: send a Data-Set for a slot (42_serial.md R183). -/
  | txDt1 (p : BitVec 10) (b : BitVec 8)
  /-- TX_RQ1: send a Data-Request (42_serial.md R184). -/
  | txRq1
  /-- TX_SETA: load the address staging register (42_serial.md R185). -/
  | txSeta (h : BitVec 7) (m : BitVec 7) (l : BitVec 7)
  /-- TX_SETS: load the size staging register (42_serial.md R186). -/
  | txSets (h : BitVec 7) (m : BitVec 7) (l : BitVec 7)
  /-- PD_UPDATE: filter one input into a slot and commit it past the deadband (43_param.md R221). -/
  | pdUpdate (p : BitVec 10) (imm : BitVec 16)
  /-- PD_GET: read the committed value of a slot (43_param.md R222). -/
  | pdGet (p : BitVec 10)
  /-- PD_PREV: read the value before the last commit (43_param.md R223). -/
  | pdPrev (p : BitVec 10)
  /-- CR_RD: read a control register (44_control.md R241). -/
  | crRd (r : BitVec 10)
  /-- CR_WR: write a control register (44_control.md R242). -/
  | crWr (r : BitVec 10) (imm : BitVec 16)
  deriving DecidableEq, Repr

/-- The mnemonic of a command (30_encoding.md R84). -/
def Instr.mnemonic : Instr → Mnemonic
  | .nop => .nop
  | .anRead _ => .anRead
  | .anGet _ => .anGet
  | .anChanged _ => .anChanged
  | .anCal => .anCal
  | .anCalrd _ => .anCalrd
  | .smUpdate _ _ => .smUpdate
  | .smReset _ => .smReset
  | .norm _ _ => .norm
  | .hyst _ _ _ => .hyst
  | .btPoll => .btPoll
  | .btState _ => .btState
  | .btPressed _ => .btPressed
  | .btReleased _ => .btReleased
  | .rxByte _ => .rxByte
  | .rxRd _ => .rxRd
  | .rxDt1 => .rxDt1
  | .csClr => .csClr
  | .csAdd _ => .csAdd
  | .csGen => .csGen
  | .csVer _ => .csVer
  | .txCc _ _ _ => .txCc
  | .txPc _ => .txPc
  | .txDt1 _ _ => .txDt1
  | .txRq1 => .txRq1
  | .txSeta _ _ _ => .txSeta
  | .txSets _ _ _ => .txSets
  | .pdUpdate _ _ => .pdUpdate
  | .pdGet _ => .pdGet
  | .pdPrev _ => .pdPrev
  | .crRd _ => .crRd
  | .crWr _ _ => .crWr

/-- The format of a mnemonic, fixed by its opcode alone (30_encoding.md R80, R84). -/
def Mnemonic.format : Mnemonic → Format
  | .nop => .N
  | .anRead => .X
  | .anGet => .X
  | .anChanged => .X
  | .anCal => .N
  | .anCalrd => .X
  | .smUpdate => .V
  | .smReset => .X
  | .norm => .V
  | .hyst => .H
  | .btPoll => .N
  | .btState => .X
  | .btPressed => .X
  | .btReleased => .X
  | .rxByte => .B
  | .rxRd => .X
  | .rxDt1 => .N
  | .csClr => .N
  | .csAdd => .B
  | .csGen => .N
  | .csVer => .B
  | .txCc => .T
  | .txPc => .B
  | .txDt1 => .P
  | .txRq1 => .N
  | .txSeta => .A
  | .txSets => .A
  | .pdUpdate => .I
  | .pdGet => .X
  | .pdPrev => .X
  | .crRd => .X
  | .crWr => .I

end Sys2Proof
end

