-- ==== Sys2Proof/Decode.lean ====
section
/-! DEFINITION. The decoder, total on every 32-bit word (30_encoding.md R85), rejecting by name (R86), and after it
the encoder, written from the formats of R81. -/

namespace Sys2Proof

/-- One row of the opcode map (30_encoding.md R84). -/
structure OpcodeRow where
  mnemonic : Mnemonic
  op : BitVec 6
  pattern : Word
  mask : Word
  deriving DecidableEq, Repr

/-- The opcode map of 30_encoding.md R84, row by row. -/
def opcodeMap : List OpcodeRow :=
  [⟨.nop, 0x00#6, 0x00000000#32, 0xFFFFFFFF#32⟩,
   ⟨.anRead, 0x01#6, 0x04000000#32, 0xFC00FFFF#32⟩,
   ⟨.anGet, 0x02#6, 0x08000000#32, 0xFC00FFFF#32⟩,
   ⟨.anChanged, 0x03#6, 0x0C000000#32, 0xFC00FFFF#32⟩,
   ⟨.anCal, 0x04#6, 0x10000000#32, 0xFFFFFFFF#32⟩,
   ⟨.anCalrd, 0x05#6, 0x14000000#32, 0xFC00FFFF#32⟩,
   ⟨.smUpdate, 0x06#6, 0x18000000#32, 0xFC00FC00#32⟩,
   ⟨.smReset, 0x07#6, 0x1C000000#32, 0xFC00FFFF#32⟩,
   ⟨.norm, 0x08#6, 0x20000000#32, 0xFC00FC00#32⟩,
   ⟨.hyst, 0x09#6, 0x24000000#32, 0xFC000000#32⟩,
   ⟨.btPoll, 0x10#6, 0x40000000#32, 0xFFFFFFFF#32⟩,
   ⟨.btState, 0x11#6, 0x44000000#32, 0xFC00FFFF#32⟩,
   ⟨.btPressed, 0x12#6, 0x48000000#32, 0xFC00FFFF#32⟩,
   ⟨.btReleased, 0x13#6, 0x4C000000#32, 0xFC00FFFF#32⟩,
   ⟨.rxByte, 0x18#6, 0x60000000#32, 0xFFFFFF00#32⟩,
   ⟨.rxRd, 0x19#6, 0x64000000#32, 0xFC00FFFF#32⟩,
   ⟨.rxDt1, 0x1a#6, 0x68000000#32, 0xFFFFFFFF#32⟩,
   ⟨.csClr, 0x1c#6, 0x70000000#32, 0xFFFFFFFF#32⟩,
   ⟨.csAdd, 0x1d#6, 0x74000000#32, 0xFFFFFF00#32⟩,
   ⟨.csGen, 0x1e#6, 0x78000000#32, 0xFFFFFFFF#32⟩,
   ⟨.csVer, 0x1f#6, 0x7C000000#32, 0xFFFFFF00#32⟩,
   ⟨.txCc, 0x20#6, 0x80000000#32, 0xFC000000#32⟩,
   ⟨.txPc, 0x21#6, 0x84000000#32, 0xFFFFFF00#32⟩,
   ⟨.txDt1, 0x22#6, 0x88000000#32, 0xFC00FF00#32⟩,
   ⟨.txRq1, 0x23#6, 0x8C000000#32, 0xFFFFFFFF#32⟩,
   ⟨.txSeta, 0x24#6, 0x90000000#32, 0xFFE00000#32⟩,
   ⟨.txSets, 0x25#6, 0x94000000#32, 0xFFE00000#32⟩,
   ⟨.pdUpdate, 0x28#6, 0xA0000000#32, 0xFC000000#32⟩,
   ⟨.pdGet, 0x29#6, 0xA4000000#32, 0xFC00FFFF#32⟩,
   ⟨.pdPrev, 0x2a#6, 0xA8000000#32, 0xFC00FFFF#32⟩,
   ⟨.crRd, 0x30#6, 0xC0000000#32, 0xFC00FFFF#32⟩,
   ⟨.crWr, 0x31#6, 0xC4000000#32, 0xFC000000#32⟩]

/-! The fields of a word (30_encoding.md R81). -/

/-- The opcode, word[31:26] (30_encoding.md R80). -/
def opField (w : Word) : BitVec 6 := w.extractLsb' 26 6

/-- word[25:16]: `idx`, `p` or `cur`. -/
def idxField (w : Word) : BitVec 10 := w.extractLsb' 16 10

/-- word[9:0]: `v` of format V. -/
def vField (w : Word) : BitVec 10 := w.extractLsb' 0 10

/-- word[15:6]: `prev` of format H. -/
def prevField (w : Word) : BitVec 10 := w.extractLsb' 6 10

/-- word[5:0]: `thr` of format H. -/
def thrField (w : Word) : BitVec 6 := w.extractLsb' 0 6

/-- word[15:8]: `a` of format T. -/
def aField (w : Word) : BitVec 8 := w.extractLsb' 8 8

/-- word[7:0]: `b` of formats B, T and P. -/
def bField (w : Word) : BitVec 8 := w.extractLsb' 0 8

/-- word[20:14]: `h` of format A. -/
def hField (w : Word) : BitVec 7 := w.extractLsb' 14 7

/-- word[13:7]: `m` of format A. -/
def mField (w : Word) : BitVec 7 := w.extractLsb' 7 7

/-- word[6:0]: `l` of format A. -/
def lField (w : Word) : BitVec 7 := w.extractLsb' 0 7

/-- word[15:0]: `imm` of format I. -/
def immField (w : Word) : BitVec 16 := w.extractLsb' 0 16

/-- The command of a mnemonic with its fields extracted from the word (30_encoding.md R81, R85). -/
def extract (w : Word) : Mnemonic → Instr
  | .nop => .nop
  | .anRead => .anRead (idxField w)
  | .anGet => .anGet (idxField w)
  | .anChanged => .anChanged (idxField w)
  | .anCal => .anCal
  | .anCalrd => .anCalrd (idxField w)
  | .smUpdate => .smUpdate (idxField w) (vField w)
  | .smReset => .smReset (idxField w)
  | .norm => .norm (idxField w) (vField w)
  | .hyst => .hyst (idxField w) (prevField w) (thrField w)
  | .btPoll => .btPoll
  | .btState => .btState (idxField w)
  | .btPressed => .btPressed (idxField w)
  | .btReleased => .btReleased (idxField w)
  | .rxByte => .rxByte (bField w)
  | .rxRd => .rxRd (idxField w)
  | .rxDt1 => .rxDt1
  | .csClr => .csClr
  | .csAdd => .csAdd (bField w)
  | .csGen => .csGen
  | .csVer => .csVer (bField w)
  | .txCc => .txCc (idxField w) (aField w) (bField w)
  | .txPc => .txPc (bField w)
  | .txDt1 => .txDt1 (idxField w) (bField w)
  | .txRq1 => .txRq1
  | .txSeta => .txSeta (hField w) (mField w) (lField w)
  | .txSets => .txSets (hField w) (mField w) (lField w)
  | .pdUpdate => .pdUpdate (idxField w) (immField w)
  | .pdGet => .pdGet (idxField w)
  | .pdPrev => .pdPrev (idxField w)
  | .crRd => .crRd (idxField w)
  | .crWr => .crWr (idxField w) (immField w)

/-- Why a word is ILLEGAL: (a) or (b) of 30_encoding.md R86. -/
inductive IllegalReason where
  /-- R86 (a): the opcode is in no row of R84. -/
  | unassignedOpcode
  /-- R86 (b): a reserved field of the format is not zero. -/
  | reservedBits
  deriving DecidableEq, Repr

/-- What a word decodes to (30_encoding.md R85). -/
inductive Decoded where
  | command (i : Instr)
  | illegal (why : IllegalReason)
  deriving DecidableEq, Repr

/-- The row of R84 that an opcode names. -/
def rowOf (op : BitVec 6) : Option OpcodeRow := opcodeMap.find? (fun r => r.op == op)

/-- The decode procedure of 30_encoding.md R85. It reads no configuration (R87). -/
def decode (w : Word) : Decoded :=
  match rowOf (opField w) with
  | none => .illegal .unassignedOpcode
  | some r => if w &&& r.mask = r.pattern then .command (extract w r.mnemonic) else .illegal .reservedBits

/-- The command of a decoded word, if it is one. -/
def Decoded.command? : Decoded → Option Instr
  | .command i => some i
  | .illegal _ => none

/-- The instruction the decoder reads from the table's bits `w` of a row of `nbits` bits. A command word is one whole
32-bit word, with no byte order to apply (20_memory.md R62 (c), 30_encoding.md R88). -/
def decodeTableWord (nbits w : Nat) : Option Instr :=
  (decode (BitVec.ofNat 32 (w % 2 ^ nbits))).command?

/-! The encoder: one function per format of 30_encoding.md R81, then one arm per command. -/

/-- Format N. -/
def encN (op : BitVec 6) : Word := op ++ 0#26

/-- Format X. -/
def encX (op : BitVec 6) (idx : BitVec 10) : Word := op ++ (idx ++ 0#16)

/-- Format V. -/
def encV (op : BitVec 6) (idx v : BitVec 10) : Word := op ++ (idx ++ (0#6 ++ v))

/-- Format H. -/
def encH (op : BitVec 6) (cur prev : BitVec 10) (thr : BitVec 6) : Word := op ++ (cur ++ (prev ++ thr))

/-- Format B. -/
def encB (op : BitVec 6) (b : BitVec 8) : Word := op ++ (0#18 ++ b)

/-- Format T. -/
def encT (op : BitVec 6) (p : BitVec 10) (a b : BitVec 8) : Word := op ++ (p ++ (a ++ b))

/-- Format P. -/
def encP (op : BitVec 6) (p : BitVec 10) (b : BitVec 8) : Word := op ++ (p ++ (0#8 ++ b))

/-- Format A. -/
def encA (op : BitVec 6) (h m l : BitVec 7) : Word := op ++ (0#5 ++ (h ++ (m ++ l)))

/-- Format I. -/
def encI (op : BitVec 6) (idx : BitVec 10) (imm : BitVec 16) : Word := op ++ (idx ++ imm)

/-- The command word of a command (30_encoding.md R81, R84). -/
def encode : Instr → Word
  | .nop => encN 0x00#6
  | .anRead idx => encX 0x01#6 idx
  | .anGet idx => encX 0x02#6 idx
  | .anChanged idx => encX 0x03#6 idx
  | .anCal => encN 0x04#6
  | .anCalrd idx => encX 0x05#6 idx
  | .smUpdate idx v => encV 0x06#6 idx v
  | .smReset idx => encX 0x07#6 idx
  | .norm idx v => encV 0x08#6 idx v
  | .hyst cur prev thr => encH 0x09#6 cur prev thr
  | .btPoll => encN 0x10#6
  | .btState idx => encX 0x11#6 idx
  | .btPressed idx => encX 0x12#6 idx
  | .btReleased idx => encX 0x13#6 idx
  | .rxByte b => encB 0x18#6 b
  | .rxRd idx => encX 0x19#6 idx
  | .rxDt1 => encN 0x1a#6
  | .csClr => encN 0x1c#6
  | .csAdd b => encB 0x1d#6 b
  | .csGen => encN 0x1e#6
  | .csVer b => encB 0x1f#6 b
  | .txCc p a b => encT 0x20#6 p a b
  | .txPc b => encB 0x21#6 b
  | .txDt1 p b => encP 0x22#6 p b
  | .txRq1 => encN 0x23#6
  | .txSeta h m l => encA 0x24#6 h m l
  | .txSets h m l => encA 0x25#6 h m l
  | .pdUpdate idx imm => encI 0x28#6 idx imm
  | .pdGet idx => encX 0x29#6 idx
  | .pdPrev idx => encX 0x2a#6 idx
  | .crRd idx => encX 0x30#6 idx
  | .crWr idx imm => encI 0x31#6 idx imm

end Sys2Proof
end

