-- ==== Sys2Proof/Config.lean ====
section
/-! DEFINITION. What one HBSC instance fixes at build time (00_scope.md R6, R7), and the free values: the inputs
and choices that the spec leaves open and no proof can see. -/

namespace Sys2Proof

/-- One entry of PD_TABLE: `(min_p, max_p, alpha_p, init_p)`; alpha is in units of 1/65536 (00_scope.md R7). -/
structure PdEntry where
  min : Int
  max : Int
  alpha : Nat
  init : Int
  deriving DecidableEq, Repr, Inhabited

/-- The configuration record `Cfg` of 00_scope.md R6. A parameter with one legal value only (MAX_RAW, RAW_W,
MAX_OUT, PD_FRAC, TIME_W) is a constant below, or a width of `Word.lean`, and no field here (DEDUCED, log entry 21). -/
structure Cfg where
  adcChips : Nat
  adcCpc : Nat
  smoothN : Nat
  calSamples : Nat
  hystReset : Nat
  btnCount : Nat
  debounceMs : Nat
  sysexMax : Nat
  paramCount : Nat
  rateMs : Nat
  pdDeadband : Nat
  pdTable : List PdEntry
  deriving DecidableEq, Repr

/-- NUM_CH = ADC_CHIPS * ADC_CPC (00_scope.md R6). -/
def Cfg.numCh (c : Cfg) : Nat := c.adcChips * c.adcCpc

/-- The PD_TABLE entry of slot `p` (00_scope.md R7). -/
def Cfg.pd (c : Cfg) (p : Nat) : PdEntry := c.pdTable.getD p default

namespace Config

/-- MAX_RAW, the largest raw ADC sample (00_scope.md R6). -/
def maxRaw : Nat := 1023

/-- MAX_OUT, the normalized full-scale value (00_scope.md R6). -/
def maxOut : Nat := 1023

/-- PD_FRAC = 16 fraction bits: one unit of a parameter value in accumulator units (00_scope.md R6). -/
def pdOne : Nat := 65536

/-- FREE VALUE (10_state.md R23: "any 10-bit value"): the sample the ADC returns for (chip, channel) at the n-th
transfer when the model's input list holds none. DESIGN CHOICE, log entry 4. -/
opaque freeAdc : Nat → Nat → Nat → Sample

/-- FREE VALUE (93_implementation_defined.md: "any value, drawn once per BT_POLL"): the n-th button pin vector when
the model's input list holds none. DESIGN CHOICE, log entry 5. -/
opaque freePins : Nat → BitVec 32

/-- FREE VALUE (93_implementation_defined.md: "any value, drawn once per time-using command"): the n-th sampled
time when the model's input list holds none. DESIGN CHOICE, log entry 6. -/
opaque freeNow : Nat → Time

/-- FREE VALUE (70_reset_and_hazards.md R281): how many of an interrupted command's bytes were emitted before the
n-th reset that arrived during a command. DESIGN CHOICE, log entry 10. -/
opaque freeAbortBytes : Nat → Nat

/-- FREE VALUE: how many of an interrupted command's ADC transfers were made before the n-th reset that arrived
during a command. DESIGN CHOICE, log entry 10. -/
opaque freeAbortTransfers : Nat → Nat

/-- FREE VALUE: whether an interrupted command had sampled the time before the n-th reset that arrived during a
command. DESIGN CHOICE, log entry 10. -/
opaque freeAbortNow : Nat → Bool

/-- FREE VALUE: whether an interrupted command had sampled the button pins before the n-th reset that arrived during a
command. DESIGN CHOICE, log entry 10. -/
opaque freeAbortPins : Nat → Bool

end Config

/-- The test configuration of 92_eei_decisions.md D49, with the source's values where 00_scope.md R6 gives them.
The state after reset that the host runs from uses it (DESIGN CHOICE, log entry 2); statements range over every legal
`Cfg`. -/
def Cfg.test : Cfg where
  adcChips := 1
  adcCpc := 2
  smoothN := 8
  calSamples := 2
  hystReset := 2
  btnCount := 4
  debounceMs := 5
  sysexMax := 16
  paramCount := 4
  rateMs := 10
  pdDeadband := 1
  pdTable := [⟨0, 100, 32768, 0⟩, ⟨-50, 50, 16384, 0⟩, ⟨0, 127, 65536, 64⟩, ⟨0, 1, 65536, 0⟩]

end Sys2Proof
end

