-- ==== Sys2Proof/Machine/State.lean ====
section
/-! DEFINITION. The state of the HBSC as plain data (10_state.md R20 to R47), the outside world's side of its ports,
the reasons a step can stop, and the machine after reset. -/

namespace Sys2Proof.Machine

/-- The status codes RSTAT can take (60_exceptions.md R250). -/
inductive Status where
  | ok | invalidChannel | invalidParam | outOfRange | bufferOverflow | checksumError | malformed | illegalCmd | badIndex
  deriving DecidableEq, Repr

/-- The reasons a step stops. No command of the HBSC stops it: "Nothing in the core is fatal" (60_exceptions.md). -/
inductive Fault where
  /-- Raised by the step, before it serves any event, when the configuration is outside the legal values of
  00_scope.md R6 and R7: that is not an HBSC configuration, and a model refuses it (93_implementation_defined.md,
  "`fault` of the configuration"). Safe: no HBSC instance has such a configuration. -/
  | illegalConfiguration
  deriving DecidableEq, Repr

/-- The reasons a command is refused. -/
inductive Refusal where
  /-- Raised by `exec` for a command that has no meaning yet; no arm of this model answers with it. Safe: the model
  stops where the hardware goes on. -/
  | notModelled (mnemonic : String)
  deriving DecidableEq, Repr

/-- One analog channel: its smoother (10_state.md R30), calibration range (R31), cached value and flag (R32). -/
structure Channel where
  smBuf : List (BitVec 10)
  smSum : BitVec 20
  smIdx : BitVec 10
  calMin : BitVec 10
  calMax : BitVec 10
  anVal : BitVec 10
  anChg : Bool
  deriving DecidableEq, Repr

/-- One button (10_state.md R33). -/
structure Button where
  st : Bool
  prv : Bool
  pend : Bool
  tchg : BitVec 32
  deriving DecidableEq, Repr

/-- One parameter slot: its rate limiter (10_state.md R38) and its change detector (R39). -/
structure Slot where
  rlValid : Bool
  rlLast : BitVec 32
  pdAcc : BitVec 32
  pdVal : BitVec 16
  pdPrev : BitVec 16
  deriving DecidableEq, Repr

/-- A staging register of three 7-bit fields, TXA or TXS (10_state.md R37). -/
structure Staged where
  h : BitVec 7
  m : BitVec 7
  l : BitVec 7
  deriving DecidableEq, Repr

/-- What arrives at the HBSC from its host: a command word (10_state.md R22), a reset between commands (R28,
70_reset_and_hazards.md R280), or a reset while the word's command is executing (R281). -/
inductive HostEvent where
  | command (w : BitVec 32)
  | reset
  | resetDuring (w : BitVec 32)
  deriving DecidableEq, Repr

/-- One request on the ADC port: `AdcTransfer(chip, chan)` (10_state.md R23). -/
structure AdcRequest where
  chip : Nat
  chan : Nat
  deriving DecidableEq, Repr

/-- The outside world's side of the ports. None of it is HBSC state (10_state.md R22 to R28): the inputs still to
come, and what the block has asked for and emitted so far. DESIGN CHOICE, log entries 3 to 8 and 10. -/
structure Ports where
  /-- The host's events still to come (R22, R28). -/
  cmdIn : List HostEvent
  /-- The samples the ADC port returns next (R23). -/
  adcIn : List (BitVec 10)
  /-- The ADC requests made so far, oldest first. -/
  adcLog : List AdcRequest
  /-- The button pin vectors sampled next (R24); bit `i` is the level of pin `i` (DESIGN CHOICE, log
  entry 22). -/
  pinsIn : List (BitVec 32)
  /-- How many times the button port was sampled. -/
  pinsCount : Nat
  /-- The values of the time input sampled next (R25). -/
  nowIn : List (BitVec 32)
  /-- How many times the time input was sampled. -/
  nowCount : Nat
  /-- The transmit stream: the bytes emitted so far, oldest first (R26) (DEDUCED, log entry 7). -/
  tx : List (BitVec 8)
  /-- How many resets arrived during a command (70_reset_and_hazards.md R281). -/
  aborts : Nat
  deriving DecidableEq, Repr

/-- The machine: the configuration it was built with, the HBSC's state field by field, and the ports' other side. -/
structure State where
  /-- The configuration (00_scope.md R6). It is no HBSC state (R280): every step reads it and none writes it
  (DESIGN CHOICE, log entry 1). -/
  cfg : Cfg
  /-- RSTAT (10_state.md R20). -/
  rstat : BitVec 4
  /-- RDATA (10_state.md R20). -/
  rdata : BitVec 32
  /-- The analog channels 0 .. NUM_CH-1 (10_state.md R30 to R32). -/
  chans : List Channel
  /-- The buttons 0 .. BTN_COUNT-1 (10_state.md R33). -/
  buttons : List Button
  /-- RX_INPROG (10_state.md R34): false is Idle, true is Accumulating (42_serial.md R160). -/
  rxInprog : Bool
  /-- RX_LEN (10_state.md R34). -/
  rxLen : BitVec 8
  /-- RX_BUF, SYSEX_MAX bytes (10_state.md R34). -/
  rxBuf : List (BitVec 8)
  /-- MSG_VALID (10_state.md R35). -/
  msgValid : Bool
  /-- MSG_LEN (10_state.md R35). -/
  msgLen : BitVec 8
  /-- MSG, SYSEX_MAX bytes (10_state.md R35). -/
  msg : List (BitVec 8)
  /-- CSUM (10_state.md R36). -/
  csum : BitVec 7
  /-- TXA, the address staging register (10_state.md R37). -/
  txa : Staged
  /-- TXS, the size staging register (10_state.md R37). -/
  txs : Staged
  /-- The parameter slots 0 .. PARAM_COUNT-1 (10_state.md R38, R39). -/
  slots : List Slot
  /-- CHANNEL, CR0 (10_state.md R43). -/
  channel : BitVec 5
  /-- MFR_ID, CR1 (10_state.md R44). -/
  mfrId : BitVec 7
  /-- MODEL_ID, CR2 (10_state.md R44). -/
  modelId : BitVec 7
  /-- HYST_T, CR3 (10_state.md R45). -/
  hystT : BitVec 6
  /-- The ports' other side. -/
  ports : Ports
  deriving DecidableEq, Repr

/-- A channel after reset (10_state.md R30, R31, R32): the smoother zeroed, the calibration range `(MAX_RAW, 0)`. -/
def Channel.atReset (smoothN : Nat) : Channel where
  smBuf := List.replicate smoothN 0
  smSum := 0
  smIdx := 0
  calMin := BitVec.ofNat 10 Config.maxRaw
  calMax := 0
  anVal := 0
  anChg := false

/-- A button after reset (10_state.md R33). -/
def Button.atReset : Button := ⟨false, false, false, 0⟩

/-- A slot after reset: the rate limiter empty (10_state.md R38), the detector at `init_p` (R39). -/
def Slot.atReset (e : PdEntry) : Slot where
  rlValid := false
  rlLast := 0
  pdAcc := BitVec.ofInt 32 (e.init * Config.pdOne)
  pdVal := BitVec.ofInt 16 e.init
  pdPrev := BitVec.ofInt 16 e.init

/-- Ports on which nothing has happened and no input is listed. -/
def Ports.idle : Ports := ⟨[], [], [], [], 0, [], 0, [], 0⟩

/-- The machine of configuration `c` right after reset (10_state.md R47, 70_reset_and_hazards.md R280). RX_BUF's
contents are unspecified there and no rule reads them: zeros (DESIGN CHOICE, log entry 9).
HYST_T takes HYST_RESET (DEDUCED, log entry 15). -/
def State.resetOf (c : Cfg) : State where
  cfg := c
  rstat := 0
  rdata := 0
  chans := List.replicate c.numCh (Channel.atReset c.smoothN)
  buttons := List.replicate c.btnCount Button.atReset
  rxInprog := false
  rxLen := 0
  rxBuf := List.replicate c.sysexMax 0
  msgValid := false
  msgLen := 0
  msg := List.replicate c.sysexMax 0
  csum := 0
  txa := ⟨0, 0, 0⟩
  txs := ⟨0, 0, 0⟩
  slots := c.pdTable.map Slot.atReset
  channel := 1
  mfrId := 0x41
  modelId := 0x14
  hystT := BitVec.ofNat 6 c.hystReset
  ports := Ports.idle

/-- The machine right after reset, in the test configuration (DESIGN CHOICE, log entry 2), with nothing waiting at its
ports. -/
def State.reset : State := State.resetOf Cfg.test

end Sys2Proof.Machine
end

