-- ==== Sys2Proof/Machine/Ops.lean ====
section
/-! DEFINITION. The shared operations of the machine: ending a command (00_scope.md R10), the ports (10_state.md R23 to
R26), element access and update, reset (70_reset_and_hazards.md R280), and the checksum functions (42_serial.md R162). -/

namespace Sys2Proof.Machine

/-! ## Ending a command -/

/-- The 4-bit code of a status (60_exceptions.md R250). -/
def Status.code : Status → BitVec 4
  | .ok => 0
  | .invalidChannel => 1
  | .invalidParam => 2
  | .outOfRange => 3
  | .bufferOverflow => 4
  | .checksumError => 5
  | .malformed => 6
  | .illegalCmd => 7
  | .badIndex => 8

/-- RSTAT and RDATA replaced, all else kept (10_state.md R20). -/
def State.answer (s : State) (code : BitVec 4) (d : BitVec 32) : State := { s with rstat := code, rdata := d }

/-- `respond(st, d)`: RSTAT and RDATA take the command's status and result (00_scope.md R10). -/
def State.respond (s : State) (st : Status) (d : BitVec 32) : State := s.answer st.code d

/-- `ok(d)` (00_scope.md R10). -/
def State.ok (s : State) (d : BitVec 32) : State := s.respond .ok d

/-- `raise E`, the HBSC's whole error mechanism (00_scope.md R10, 60_exceptions.md R251, R255): RSTAT = E and RDATA = 0.
Applied to the state the command started from, so nothing else changes. There is no trap entry and no return. -/
def State.raise (s : State) (e : Status) : State := s.respond e 0

/-! ## Elements of the indexed state -/

/-- Channel `ch`. Past the end of the list, which no state with `State.Inv` reaches, a channel as after reset
(DESIGN CHOICE, log entry 13). -/
def State.chan (s : State) (ch : Nat) : Channel := s.chans.getD ch (Channel.atReset s.cfg.smoothN)

/-- Button `i`. -/
def State.button (s : State) (i : Nat) : Button := s.buttons.getD i Button.atReset

/-- Slot `p`. -/
def State.slot (s : State) (p : Nat) : Slot := s.slots.getD p (Slot.atReset (s.cfg.pd p))

/-- Replace channel `ch`. -/
def State.setChan (s : State) (ch : Nat) (c : Channel) : State := { s with chans := s.chans.set ch c }

/-- Replace every channel. -/
def State.setChans (s : State) (cs : List Channel) : State := { s with chans := cs }

/-- Replace every button. -/
def State.setButtons (s : State) (bs : List Button) : State := { s with buttons := bs }

/-- Replace slot `p`. -/
def State.setSlot (s : State) (p : Nat) (x : Slot) : State := { s with slots := s.slots.set p x }

/-- Write the framer's three fields (10_state.md R34). -/
def State.setFramer (s : State) (inprog : Bool) (len : BitVec 8) (buf : List (BitVec 8)) : State :=
  { s with rxInprog := inprog, rxLen := len, rxBuf := buf }

/-- Write the latched message's three fields (10_state.md R35). -/
def State.setLatch (s : State) (valid : Bool) (len : BitVec 8) (bytes : List (BitVec 8)) : State :=
  { s with msgValid := valid, msgLen := len, msg := bytes }

/-- Write CSUM (10_state.md R36). -/
def State.setCsum (s : State) (v : BitVec 7) : State := { s with csum := v }

/-- Write TXA (10_state.md R37). -/
def State.setTxa (s : State) (a : Staged) : State := { s with txa := a }

/-- Write TXS (10_state.md R37). -/
def State.setTxs (s : State) (a : Staged) : State := { s with txs := a }

/-- Write CHANNEL (10_state.md R43). -/
def State.setChannel (s : State) (v : BitVec 5) : State := { s with channel := v }

/-- Write MFR_ID (10_state.md R44). -/
def State.setMfrId (s : State) (v : BitVec 7) : State := { s with mfrId := v }

/-- Write MODEL_ID (10_state.md R44). -/
def State.setModelId (s : State) (v : BitVec 7) : State := { s with modelId := v }

/-- Write HYST_T (10_state.md R45). -/
def State.setHystT (s : State) (v : BitVec 6) : State := { s with hystT := v }

/-- Replace the ports' other side. -/
def State.setPorts (s : State) (p : Ports) : State := { s with ports := p }

/-! ## Ports -/

/-- The sample `AdcTransfer(chip, chan)` returns (10_state.md R23): the next listed input, else a free value. -/
def Ports.adcSample (p : Ports) (chip chan : Nat) : BitVec 10 :=
  p.adcIn.headD (Config.freeAdc chip chan p.adcLog.length)

/-- The ports after one `AdcTransfer(chip, chan)`. -/
def Ports.afterAdc (p : Ports) (chip chan : Nat) : Ports :=
  { p with adcIn := p.adcIn.tail, adcLog := p.adcLog ++ [⟨chip, chan⟩] }

/-- The pin levels `BtnIn()` returns (10_state.md R24); only bits 0 .. BTN_COUNT-1 are pins. -/
def Ports.pins (p : Ports) : BitVec 32 := p.pinsIn.headD (Config.freePins p.pinsCount)

/-- The ports after one `BtnIn()`. -/
def Ports.afterPins (p : Ports) : Ports := { p with pinsIn := p.pinsIn.tail, pinsCount := p.pinsCount + 1 }

/-- The time `Now()` returns (10_state.md R25). -/
def Ports.now (p : Ports) : BitVec 32 := p.nowIn.headD (Config.freeNow p.nowCount)

/-- The ports after one `Now()`. -/
def Ports.afterNow (p : Ports) : Ports := { p with nowIn := p.nowIn.tail, nowCount := p.nowCount + 1 }

/-- `TxEmit(bytes)`: append the bytes, in order, to the transmit stream (10_state.md R26). -/
def Ports.emit (p : Ports) (bytes : List (BitVec 8)) : Ports := { p with tx := p.tx ++ bytes }

/-- `(now - t) mod 2^32`, the only way times are compared (10_state.md R25). -/
def elapsed (now t : BitVec 32) : Nat := (now - t).toNat

/-! ## Reset -/

/-- The reset input's effect between commands (70_reset_and_hazards.md R280): every state field takes its reset
value, the configuration is not changed, no port is sampled and no byte emitted. -/
def State.resetNow (s : State) : State := (State.resetOf s.cfg).setPorts s.ports

/-- The ports after a reset that arrived while a command was executing (70_reset_and_hazards.md R281): `before` are the
ports when the command was accepted and `after` what they would be had it completed. A free prefix of the command's
bytes was emitted, a free number of its ADC transfers made, and its time and pin samples taken or not.
DESIGN CHOICE, log entry 10. -/
def Ports.abort (before after : Ports) : Ports :=
  let bytes := (after.tx.drop before.tx.length).take (Config.freeAbortBytes before.aborts)
  let requests := (after.adcLog.drop before.adcLog.length).take (Config.freeAbortTransfers before.aborts)
  { before with
    tx := before.tx ++ bytes
    adcLog := before.adcLog ++ requests
    adcIn := before.adcIn.drop requests.length
    nowIn := if Config.freeAbortNow before.aborts then after.nowIn else before.nowIn
    nowCount := if Config.freeAbortNow before.aborts then after.nowCount else before.nowCount
    pinsIn := if Config.freeAbortPins before.aborts then after.pinsIn else before.pinsIn
    pinsCount := if Config.freeAbortPins before.aborts then after.pinsCount else before.pinsCount
    aborts := before.aborts + 1 }

/-! ## Checksums -/

/-- `Σ(B)`: the integer sum of a byte sequence (42_serial.md R162). -/
def byteSum (B : List (BitVec 8)) : Nat := (B.map BitVec.toNat).sum

/-- `CsGen(B) = (128 - (Σ(B) & 0x7F)) & 0x7F` (42_serial.md R162). -/
def csGen (B : List (BitVec 8)) : BitVec 7 := BitVec.ofNat 7 (128 - byteSum B % 128)

/-- `CsOk(B, c) = ((Σ(B) + c) & 0x7F) == 0` (42_serial.md R162). -/
def csOk (B : List (BitVec 8)) (c : BitVec 8) : Bool := (byteSum B + c.toNat) % 128 == 0

end Sys2Proof.Machine
end

