-- ==== Sys2Proof/Machine/Operands.lean ====
section
/-! DEFINITION. How operand fields become values (30_encoding.md R82): the index checks of each index space
(20_memory.md R60), the signed immediate, and the 7-bit masking of byte operands. -/

namespace Sys2Proof.Machine

/-- An analog-channel operand: BAD_INDEX at or above NUM_CH, else the command goes on with the channel's number
(20_memory.md R60, 40_analog.md R101). -/
def State.onChannel (s : State) (ch : BitVec 10) (k : Nat → State) : State :=
  if s.cfg.numCh ≤ ch.toNat then s.raise .badIndex else k ch.toNat

/-- A button operand: BAD_INDEX at or above BTN_COUNT (20_memory.md R60). -/
def State.onButton (s : State) (i : BitVec 10) (k : Nat → State) : State :=
  if s.cfg.btnCount ≤ i.toNat then s.raise .badIndex else k i.toNat

/-- A parameter-slot operand: INVALID_PARAM at or above PARAM_COUNT (20_memory.md R60). -/
def State.onSlot (s : State) (p : BitVec 10) (k : Nat → State) : State :=
  if s.cfg.paramCount ≤ p.toNat then s.raise .invalidParam else k p.toNat

/-- A message-byte operand: BAD_INDEX unless a message is latched and the index is below MSG_LEN (20_memory.md R60,
42_serial.md R166). -/
def State.onMessage (s : State) (i : BitVec 10) (k : Nat → State) : State :=
  if s.msgValid = false ∨ s.msgLen.toNat ≤ i.toNat then s.raise .badIndex else k i.toNat

/-- A control-register operand: BAD_INDEX above 7 (20_memory.md R60, 44_control.md R241). -/
def State.onRegister (s : State) (r : BitVec 10) (k : Nat → State) : State :=
  if 7 < r.toNat then s.raise .badIndex else k r.toNat

/-- `s16(imm)`: the one signed operand, PD_UPDATE's (30_encoding.md R82, 00_scope.md R8). -/
def s16 (imm : BitVec 16) : Int := imm.toInt

/-- `b & 0x7F`: a byte operand as the builders send it (30_encoding.md R82). -/
def mask7 (b : BitVec 8) : BitVec 8 := b &&& 0x7F#8

/-- A 7-bit field as a serial byte. -/
def dataByte (v : BitVec 7) : BitVec 8 := v.setWidth 8

/-- A bit as a 32-bit result, `zext_32` of one bit (00_scope.md R8). -/
def bitWord (b : Bool) : BitVec 32 := (BitVec.ofBool b).setWidth 32

/-- The protocol nibble `CHANNEL - 1` as a byte (10_state.md R43). -/
def State.channelNibble (s : State) : BitVec 8 := s.channel.setWidth 8 - 1

end Sys2Proof.Machine
end

