-- ==== Sys2Proof/Machine/Flags.lean ====
section
/-! DEFINITION. The HBSC's one-bit status state (10_state.md R40) as the commands compute it: the change flag, the
button edges, the rate limiter's valid bit, and the RXSTAT view. The HBSC has no condition codes. -/

namespace Sys2Proof.Machine

/-- AN_READ's last step: a value that differs from the cache replaces it and sets AN_CHG; an equal one changes nothing
(40_analog.md R110). -/
def Channel.accept (c : Channel) (h : BitVec 10) : Channel :=
  if h = c.anVal then c else { c with anVal := h, anChg := true }

/-- AN_CHANGED's write: AN_CHG is cleared (40_analog.md R112). -/
def Channel.clearChanged (c : Channel) : Channel := { c with anChg := false }

/-- The press edge of a button: BT_ST = 1 and BT_PRV = 0 (41_buttons.md R143). -/
def Button.pressEdge (b : Button) : Bool := b.st && !b.prv

/-- The release edge of a button: BT_ST = 0 and BT_PRV = 1 (41_buttons.md R143). -/
def Button.releaseEdge (b : Button) : Bool := !b.st && b.prv

/-- BT_POLL's result: bit `i` is the press edge of button `i`, and bits at and above BTN_COUNT are 0 (41_buttons.md
R144). -/
def pressMap (bs : List Button) : BitVec 32 := (BitVec.ofBoolListLE (bs.map Button.pressEdge)).setWidth 32

/-- `RateOk(p, now)` (42_serial.md R180). -/
def Slot.rateOk (x : Slot) (rateMs : Nat) (now : BitVec 32) : Bool :=
  !x.rlValid || decide (rateMs ≤ elapsed now x.rlLast)

/-- `RateMark(p, now)` (42_serial.md R180). -/
def Slot.rateMark (x : Slot) (now : BitVec 32) : Slot := { x with rlValid := true, rlLast := now }

/-- RXSTAT (10_state.md R46, 44_control.md R241; DEDUCED, log entry 16):
`{8'b0, MSG_VALID ? MSG_LEN : 8'b0, RX_LEN, 6'b0, MSG_VALID, RX_INPROG}`. -/
def State.rxstat (s : State) : BitVec 32 :=
  0#8 ++ (if s.msgValid then s.msgLen else 0#8) ++ s.rxLen ++ 0#6 ++ BitVec.ofBool s.msgValid ++
    BitVec.ofBool s.rxInprog

end Sys2Proof.Machine
end

