-- ==== Sys2Proof/Machine/Analog.lean ====
section
/-! DEFINITION. The analog conditioner (40_analog.md): the channel mapping (R101), the four internal functions (R102 to
R105) and the nine commands (R110 to R118). -/

namespace Sys2Proof.Machine

/-- `chip(ch) = ch div ADC_CPC` (40_analog.md R101). -/
def chipOf (c : Cfg) (ch : Nat) : Nat := ch / c.adcCpc

/-- `chan(ch) = ch mod ADC_CPC` (40_analog.md R101). -/
def chanOf (c : Cfg) (ch : Nat) : Nat := ch % c.adcCpc

/-- The state after the ADC transfer for channel `ch` (40_analog.md R101). -/
def State.afterSample (s : State) (ch : Nat) : State :=
  s.setPorts (s.ports.afterAdc (chipOf s.cfg ch) (chanOf s.cfg ch))

/-- The sample that transfer returns. -/
def State.sample (s : State) (ch : Nat) : BitVec 10 := s.ports.adcSample (chipOf s.cfg ch) (chanOf s.cfg ch)

/-- The state part of `SmUpdate(ch, raw)` for a window of `n` samples (40_analog.md R102). -/
def Channel.smUpdate (c : Channel) (n : Nat) (raw : BitVec 10) : Channel :=
  { c with
    smSum := c.smSum - (c.smBuf.getD c.smIdx.toNat 0).setWidth 20 + raw.setWidth 20
    smBuf := c.smBuf.set c.smIdx.toNat raw
    smIdx := BitVec.ofNat 10 ((c.smIdx.toNat + 1) % n) }

/-- The value part of `SmUpdate`: `SM_SUM[ch] div SMOOTH_N` after the update (40_analog.md R102). -/
def Channel.smoothed (c : Channel) (n : Nat) : BitVec 10 := BitVec.ofNat 10 (c.smSum.toNat / n)

/-- `SmReset(ch)` (40_analog.md R103). -/
def Channel.smReset (c : Channel) (n : Nat) : Channel :=
  { c with smBuf := List.replicate n 0, smSum := 0, smIdx := 0 }

/-- `Normalize(ch, v)` (40_analog.md R104). The identity test comes first. -/
def Channel.normalize (c : Channel) (v : BitVec 10) : BitVec 10 :=
  if c.calMax.toNat ≤ c.calMin.toNat then v
  else if v.toNat ≤ c.calMin.toNat then 0
  else if c.calMax.toNat ≤ v.toNat then BitVec.ofNat 10 Config.maxOut
  else BitVec.ofNat 10 ((v.toNat - c.calMin.toNat) * Config.maxOut / (c.calMax.toNat - c.calMin.toNat))

/-- `Hyst(cur, prev, thr)`; the difference is taken on integers (40_analog.md R105). -/
def hystValue (cur prev : BitVec 10) (thr : BitVec 6) : BitVec 10 :=
  if ((cur.toNat : Int) - prev.toNat).natAbs < thr.toNat then prev else cur

/-- The channel after AN_READ took the sample `raw`: smoothed, normalized, through the hysteresis, and accepted into
the cache if it differs (40_analog.md R110). -/
def Channel.read (c : Channel) (n : Nat) (thr : BitVec 6) (raw : BitVec 10) : Channel :=
  let u := c.smUpdate n raw
  u.accept (hystValue (u.normalize (u.smoothed n)) u.anVal thr)

/-- AN_READ (40_analog.md R110). -/
def execAnRead (ch : BitVec 10) (s : State) : Host.Outcome State Fault Refusal :=
  .next (s.onChannel ch fun ch =>
    let c := (s.chan ch).read s.cfg.smoothN s.hystT (s.sample ch)
    ((s.afterSample ch).setChan ch c).ok (c.anVal.setWidth 32))

/-- AN_GET (40_analog.md R111). -/
def execAnGet (ch : BitVec 10) (s : State) : Host.Outcome State Fault Refusal :=
  .next (s.onChannel ch fun ch => s.ok ((s.chan ch).anVal.setWidth 32))

/-- AN_CHANGED (40_analog.md R112): the flag is returned and cleared. -/
def execAnChanged (ch : BitVec 10) (s : State) : Host.Outcome State Fault Refusal :=
  .next (s.onChannel ch fun ch => (s.setChan ch (s.chan ch).clearChanged).ok (bitWord (s.chan ch).anChg))

/-- One calibration sample widens the range (40_analog.md R116). -/
def Channel.widen (c : Channel) (r : BitVec 10) : Channel :=
  { c with calMin := if r.toNat < c.calMin.toNat then r else c.calMin
           calMax := if c.calMax.toNat < r.toNat then r else c.calMax }

/-- One raw sample of channel `ch` taken into its calibration range (40_analog.md R116). -/
def State.calSample (ch : Nat) (s : State) : State :=
  (s.afterSample ch).setChan ch ((s.chan ch).widen (s.sample ch))

/-- `k` raw samples of channel `ch`, one after the other (40_analog.md R116). -/
def State.calChannel (ch : Nat) : Nat → State → State
  | 0, s => s
  | k + 1, s => State.calChannel ch k (s.calSample ch)

/-- CAL_SAMPLES samples of channel 0, then of channel 1, and so on below `n` (40_analog.md R116, 20_memory.md R68). -/
def State.calChannels (n : Nat) (s : State) : State :=
  (List.range n).foldl (fun t ch => State.calChannel ch s.cfg.calSamples t) s

/-- Every smoother reset, AN_CAL's second loop (40_analog.md R116). -/
def State.resetSmoothers (s : State) : State := s.setChans (s.chans.map (·.smReset s.cfg.smoothN))

/-- AN_CAL (40_analog.md R116). -/
def execAnCal (s : State) : Host.Outcome State Fault Refusal :=
  .next ((s.calChannels s.cfg.numCh).resetSmoothers.ok 0)

/-- AN_CALRD (40_analog.md R117): `{6'b0, CAL_MAX, 6'b0, CAL_MIN}`. -/
def execAnCalrd (ch : BitVec 10) (s : State) : Host.Outcome State Fault Refusal :=
  .next (s.onChannel ch fun ch => s.ok (0#6 ++ (s.chan ch).calMax ++ 0#6 ++ (s.chan ch).calMin))

/-- SM_UPDATE (40_analog.md R113). -/
def execSmUpdate (ch v : BitVec 10) (s : State) : Host.Outcome State Fault Refusal :=
  .next (s.onChannel ch fun ch =>
    let c := (s.chan ch).smUpdate s.cfg.smoothN v
    (s.setChan ch c).ok ((c.smoothed s.cfg.smoothN).setWidth 32))

/-- SM_RESET (40_analog.md R114). -/
def execSmReset (ch : BitVec 10) (s : State) : Host.Outcome State Fault Refusal :=
  .next (s.onChannel ch fun ch => (s.setChan ch ((s.chan ch).smReset s.cfg.smoothN)).ok 0)

/-- NORM (40_analog.md R115). -/
def execNorm (ch v : BitVec 10) (s : State) : Host.Outcome State Fault Refusal :=
  .next (s.onChannel ch fun ch => s.ok (((s.chan ch).normalize v).setWidth 32))

/-- HYST (40_analog.md R118). It reads no state. -/
def execHyst (cur prev : BitVec 10) (thr : BitVec 6) (s : State) : Host.Outcome State Fault Refusal :=
  .next (s.ok ((hystValue cur prev thr).setWidth 32))

end Sys2Proof.Machine
end

