-- ==== Sys2Proof/Machine/Buttons.lean ====
section
/-! DEFINITION. The button debouncer (41_buttons.md): the debounce step (R142) and the four commands (R144 to R147). -/

namespace Sys2Proof.Machine

/-- The disagreement part of `Debounce`: the first disagreeing poll sets BT_PEND and records the time; the state flips
once the disagreement has lasted DEBOUNCE_MS (41_buttons.md R142). -/
def Button.disagree (b : Button) (debounceMs : Nat) (r : Bool) (now : BitVec 32) : Button :=
  let since := if b.pend then b.tchg else now
  if debounceMs ≤ elapsed now since then
    { b with st := r, pend := false, tchg := since }
  else
    { b with pend := true, tchg := since }

/-- `Debounce(i, r, now)` for one button (41_buttons.md R142). -/
def Button.debounce (b : Button) (debounceMs : Nat) (r : Bool) (now : BitVec 32) : Button :=
  let c := { b with prv := b.st }
  if r = b.st then { c with pend := false } else c.disagree debounceMs r now

/-- `r_i = 1 - BtnIn()[i]`: the pins are active low (41_buttons.md R141). -/
def pressedLevel (pins : BitVec 32) (i : Nat) : Bool := !pins.getLsbD i

/-- Every button debounced against one sampled pin vector and time (41_buttons.md R144). -/
def State.polled (s : State) : List Button :=
  s.buttons.mapIdx fun i b => b.debounce s.cfg.debounceMs (pressedLevel s.ports.pins i) s.ports.now

/-- BT_POLL (41_buttons.md R144): the time and the pins are each sampled once. -/
def execBtPoll (s : State) : Host.Outcome State Fault Refusal :=
  .next (((s.setPorts s.ports.afterNow.afterPins).setButtons s.polled).ok (pressMap s.polled))

/-- BT_STATE (41_buttons.md R145). -/
def execBtState (i : BitVec 10) (s : State) : Host.Outcome State Fault Refusal :=
  .next (s.onButton i fun i => s.ok (bitWord (s.button i).st))

/-- BT_PRESSED (41_buttons.md R146). -/
def execBtPressed (i : BitVec 10) (s : State) : Host.Outcome State Fault Refusal :=
  .next (s.onButton i fun i => s.ok (bitWord (s.button i).pressEdge))

/-- BT_RELEASED (41_buttons.md R147). -/
def execBtReleased (i : BitVec 10) (s : State) : Host.Outcome State Fault Refusal :=
  .next (s.onButton i fun i => s.ok (bitWord (s.button i).releaseEdge))

end Sys2Proof.Machine
end

