-- ==== Sys2Proof/Machine/Control.lean ====
section
/-! DEFINITION. The control commands: NOP, CR_RD and CR_WR (44_control.md R240 to R242). -/

namespace Sys2Proof.Machine

/-- NOP (44_control.md R240). -/
def execNop (s : State) : Host.Outcome State Fault Refusal := .next (s.ok 0)

/-- The three 7-bit fields of TXA or TXS as CR_RD packs them: h in [20:14], m in [13:7], l in [6:0] (10_state.md R42). -/
def Staged.packed (a : Staged) : BitVec 32 := 0#11 ++ a.h ++ a.m ++ a.l

/-- The value of control register `r` (10_state.md R42, 44_control.md R241). -/
def State.crValue (s : State) : Nat → BitVec 32
  | 0 => s.channel.setWidth 32
  | 1 => s.mfrId.setWidth 32
  | 2 => s.modelId.setWidth 32
  | 3 => s.hystT.setWidth 32
  | 4 => s.rxstat
  | 5 => s.csum.setWidth 32
  | 6 => s.txa.packed
  | 7 => s.txs.packed
  | _ => 0

/-- CR_RD (44_control.md R241). -/
def execCrRd (r : BitVec 10) (s : State) : Host.Outcome State Fault Refusal :=
  .next (s.onRegister r fun r => s.ok (s.crValue r))

/-- CR_WR to register `r`, 0 to 7: registers 4 to 7 are read-only, and a value outside the register's legal range is
refused (44_control.md R242). -/
def State.crWrite (s : State) (v : BitVec 16) : Nat → State
  | 0 => if v.toNat < 1 ∨ 16 < v.toNat then s.raise .invalidChannel else (s.setChannel (v.setWidth 5)).ok 0
  | 1 => if 0x7F < v.toNat then s.raise .outOfRange else (s.setMfrId (v.setWidth 7)).ok 0
  | 2 => if 0x7F < v.toNat then s.raise .outOfRange else (s.setModelId (v.setWidth 7)).ok 0
  | 3 => if 63 < v.toNat then s.raise .outOfRange else (s.setHystT (v.setWidth 6)).ok 0
  | _ => s.raise .illegalCmd

/-- CR_WR (44_control.md R242). -/
def execCrWr (r : BitVec 10) (imm : BitVec 16) (s : State) : Host.Outcome State Fault Refusal :=
  .next (s.onRegister r fun r => s.crWrite imm r)

end Sys2Proof.Machine
end

