-- ==== Sys2Proof/Machine/Framer.lean ====
section
/-! DEFINITION. The serial engine's inbound framer (42_serial.md R160 to R167) and its checksum engine (R170 to R174). -/

namespace Sys2Proof.Machine

/-- The exclusive-message start byte (42_serial.md R160). -/
def startByte : BitVec 8 := 0xF0#8

/-- The exclusive-message terminator (42_serial.md R160). -/
def endByte : BitVec 8 := 0xF7#8

/-- A real-time byte: `b >= 0xF8` (42_serial.md R161). -/
def isRealTime (b : BitVec 8) : Bool := decide (0xF8 ≤ b.toNat)

/-- The checksum range `B[4..L-3]` of an accumulated message of `L` bytes (42_serial.md R162, R164). -/
def checksumRange (B : List (BitVec 8)) (L : Nat) : List (BitVec 8) := (B.take (L - 2)).drop 4

/-- `Validate(B, L)` (42_serial.md R164). -/
def validate (B : List (BitVec 8)) (L : Nat) : Bool :=
  decide (7 ≤ L) && csOk (checksumRange B L) (B.getD (L - 2) 0)

/-- RX_BYTE's result `{22'b0, kind, v}` (42_serial.md R163). -/
def rxResult (kind : BitVec 2) (v : BitVec 8) : BitVec 32 := 0#22 ++ kind ++ v

/-- The terminator arrived and `buf` holds the `len` bytes accumulated: back to Idle, and a message that validates is
latched (42_serial.md R163, R165). Bytes of MSG past its new length keep their values, as in the loop over 0..L-1
(DEDUCED, log entry 12). -/
def State.rxTerminate (s : State) (buf : List (BitVec 8)) (len : BitVec 8) : State :=
  let idle := s.setFramer false 0 buf
  if validate buf len.toNat then
    (idle.setLatch true len (buf.take len.toNat ++ s.msg.drop len.toNat)).ok (rxResult 2 len)
  else idle.ok 0

/-- RX_BYTE while Accumulating: the byte is appended; then the terminator test, then the overflow test (42_serial.md
R163). -/
def State.rxAppend (s : State) (b : BitVec 8) : State :=
  let buf := s.rxBuf.set s.rxLen.toNat b
  let len := s.rxLen + 1
  if b = endByte then s.rxTerminate buf len
  else if len.toNat = s.cfg.sysexMax then (s.setFramer false 0 buf).ok 0
  else (s.setFramer true len buf).ok 0

/-- RX_BYTE's whole effect (42_serial.md R163). -/
def State.rxByte (s : State) (b : BitVec 8) : State :=
  if isRealTime b then s.ok (rxResult 1 b)
  else if s.rxInprog then s.rxAppend b
  else if b = startByte then (s.setFramer true 1 (s.rxBuf.set 0 startByte)).ok 0
  else s.ok 0

/-- RX_BYTE (42_serial.md R163). -/
def execRxByte (b : BitVec 8) (s : State) : Host.Outcome State Fault Refusal := .next (s.rxByte b)

/-- `MSG[k]` (10_state.md R35). -/
def State.msgByte (s : State) (k : Nat) : BitVec 8 := s.msg.getD k 0

/-- RX_RD (42_serial.md R166). -/
def execRxRd (k : BitVec 10) (s : State) : Host.Outcome State Fault Refusal :=
  .next (s.onMessage k fun k => s.ok ((s.msgByte k).setWidth 32))

/-- RX_DT1 (42_serial.md R167): MALFORMED unless a Data-Set with at least one data byte is latched. -/
def execRxDt1 (s : State) : Host.Outcome State Fault Refusal :=
  .next (if s.msgValid = false ∨ s.msgLen.toNat < 11 ∨ s.msgByte 4 ≠ 0x12#8 then s.raise .malformed
    else s.ok (s.msgByte 5 ++ s.msgByte 6 ++ s.msgByte 7 ++ s.msgByte 8))

/-- CS_CLR (42_serial.md R171). -/
def execCsClr (s : State) : Host.Outcome State Fault Refusal := .next ((s.setCsum 0).ok 0)

/-- `(CSUM + b) & 0x7F` (42_serial.md R172). -/
def State.csumPlus (s : State) (b : BitVec 8) : BitVec 7 := BitVec.ofNat 7 (s.csum.toNat + b.toNat)

/-- CS_ADD (42_serial.md R172). -/
def execCsAdd (b : BitVec 8) (s : State) : Host.Outcome State Fault Refusal :=
  .next ((s.setCsum (s.csumPlus b)).ok ((s.csumPlus b).setWidth 32))

/-- CS_GEN (42_serial.md R173): `(128 - CSUM) & 0x7F`. -/
def execCsGen (s : State) : Host.Outcome State Fault Refusal :=
  .next (s.ok ((BitVec.ofNat 7 (128 - s.csum.toNat)).setWidth 32))

/-- CS_VER (42_serial.md R174). -/
def execCsVer (c : BitVec 8) (s : State) : Host.Outcome State Fault Refusal :=
  .next (if s.csumPlus c ≠ 0 then s.raise .checksumError else s.ok 1)

end Sys2Proof.Machine
end

