-- ==== Sys2Proof/Machine/Param.lean ====
section
/-! DEFINITION. The parameter-change detector (43_param.md R220 to R223). -/

namespace Sys2Proof.Machine

/-- The filter step: `PD_ACC + ((alpha * diff) >>> 16)` with `diff = x * 65536 - PD_ACC`, on integers; it fits in 32
bits by 43_param.md R224 (43_param.md R221). -/
def Slot.filtered (x : Slot) (e : PdEntry) (input : Int) : Int :=
  x.pdAcc.toInt + ((e.alpha : Int) * (input * Config.pdOne - x.pdAcc.toInt)) >>> 16

/-- The accumulator rounded half up to an integer: `(PD_ACC + 32768) >>> 16` (43_param.md R221). -/
def Slot.rounded (x : Slot) : Int := (x.pdAcc.toInt + 32768) >>> 16

/-- The slot after the filter step (43_param.md R221). -/
def Slot.filter (x : Slot) (e : PdEntry) (input : Int) : Slot :=
  { x with pdAcc := BitVec.ofInt 32 (x.filtered e input) }

/-- Whether the rounded filter value is past the deadband (43_param.md R221). -/
def Slot.moved (x : Slot) (deadband : Nat) : Bool := decide (deadband < (x.rounded - x.pdVal.toInt).natAbs)

/-- The commit: the old value saved, the rounded value visible (43_param.md R221). -/
def Slot.commit (x : Slot) : Slot := { x with pdPrev := x.pdVal, pdVal := BitVec.ofInt 16 x.rounded }

/-- PD_UPDATE's result `{15'b0, c, PD_VAL}` (43_param.md R221). -/
def pdResult (committed : Bool) (v : BitVec 16) : BitVec 32 := 0#15 ++ BitVec.ofBool committed ++ v

/-- PD_UPDATE on slot `p` with an input inside the slot's range (43_param.md R221). -/
def State.pdAccept (s : State) (p : Nat) (input : Int) : State :=
  let x := (s.slot p).filter (s.cfg.pd p) input
  let c := x.moved s.cfg.pdDeadband
  let y := if c then x.commit else x
  (s.setSlot p y).ok (pdResult c y.pdVal)

/-- PD_UPDATE (43_param.md R221): OUT_OF_RANGE outside `[min_p, max_p]` (R220). -/
def execPdUpdate (p : BitVec 10) (imm : BitVec 16) (s : State) : Host.Outcome State Fault Refusal :=
  .next (s.onSlot p fun p =>
    if s16 imm < (s.cfg.pd p).min ∨ (s.cfg.pd p).max < s16 imm then s.raise .outOfRange
    else s.pdAccept p (s16 imm))

/-- PD_GET (43_param.md R222). -/
def execPdGet (p : BitVec 10) (s : State) : Host.Outcome State Fault Refusal :=
  .next (s.onSlot p fun p => s.ok ((s.slot p).pdVal.setWidth 32))

/-- PD_PREV (43_param.md R223). -/
def execPdPrev (p : BitVec 10) (s : State) : Host.Outcome State Fault Refusal :=
  .next (s.onSlot p fun p => s.ok ((s.slot p).pdPrev.setWidth 32))

end Sys2Proof.Machine
end

