-- ==== Sys2Proof/Machine/Transmit.lean ====
section
/-! DEFINITION. The serial engine's outbound builders and rate limiter (42_serial.md R180 to R186). -/

namespace Sys2Proof.Machine

/-- The Control Change bytes (42_serial.md R181). -/
def State.ccBytes (s : State) (a b : BitVec 8) : List (BitVec 8) :=
  [0xB0#8 ||| s.channelNibble, mask7 a, mask7 b]

/-- The Program Change bytes (42_serial.md R182). -/
def State.pcBytes (s : State) (b : BitVec 8) : List (BitVec 8) := [0xC0#8 ||| s.channelNibble, mask7 b]

/-- An exclusive message around a body: header, body, checksum of the body, terminator (42_serial.md R183, R184). -/
def State.exclusive (s : State) (body : List (BitVec 8)) : List (BitVec 8) :=
  [startByte, dataByte s.mfrId, s.channelNibble, dataByte s.modelId] ++ body ++ [dataByte (csGen body), endByte]

/-- The bytes of a staging register, most significant first (20_memory.md R62 (b)). -/
def Staged.bytes (a : Staged) : List (BitVec 8) := [dataByte a.h, dataByte a.m, dataByte a.l]

/-- The Data-Set bytes (42_serial.md R183). -/
def State.dt1Bytes (s : State) (b : BitVec 8) : List (BitVec 8) :=
  s.exclusive (0x12#8 :: s.txa.bytes ++ [mask7 b])

/-- The Data-Request bytes (42_serial.md R184). -/
def State.rq1Bytes (s : State) : List (BitVec 8) := s.exclusive (0x11#8 :: s.txa.bytes ++ s.txs.bytes)

/-- A rate-limited send on slot `p`: one time sample; the bytes and the mark if the window has passed, else nothing,
with RDATA bit 0 saying which (42_serial.md R180). -/
def State.limitedSend (s : State) (p : Nat) (bytes : List (BitVec 8)) : State :=
  let sampled := s.setPorts s.ports.afterNow
  if (s.slot p).rateOk s.cfg.rateMs s.ports.now then
    ((sampled.setPorts (sampled.ports.emit bytes)).setSlot p ((s.slot p).rateMark s.ports.now)).ok 1
  else sampled.ok 0

/-- An unlimited send (42_serial.md R182, R184). -/
def State.send (s : State) (bytes : List (BitVec 8)) : State := (s.setPorts (s.ports.emit bytes)).ok 1

/-- TX_CC (42_serial.md R181). -/
def execTxCc (p : BitVec 10) (a b : BitVec 8) (s : State) : Host.Outcome State Fault Refusal :=
  .next (s.onSlot p fun p => s.limitedSend p (s.ccBytes a b))

/-- TX_PC (42_serial.md R182). -/
def execTxPc (b : BitVec 8) (s : State) : Host.Outcome State Fault Refusal := .next (s.send (s.pcBytes b))

/-- TX_DT1 (42_serial.md R183). -/
def execTxDt1 (p : BitVec 10) (b : BitVec 8) (s : State) : Host.Outcome State Fault Refusal :=
  .next (s.onSlot p fun p => s.limitedSend p (s.dt1Bytes b))

/-- TX_RQ1 (42_serial.md R184). -/
def execTxRq1 (s : State) : Host.Outcome State Fault Refusal := .next (s.send s.rq1Bytes)

/-- TX_SETA (42_serial.md R185). -/
def execTxSeta (h m l : BitVec 7) (s : State) : Host.Outcome State Fault Refusal :=
  .next ((s.setTxa ⟨h, m, l⟩).ok 0)

/-- TX_SETS (42_serial.md R186). -/
def execTxSets (h m l : BitVec 7) (s : State) : Host.Outcome State Fault Refusal :=
  .next ((s.setTxs ⟨h, m, l⟩).ok 0)

end Sys2Proof.Machine
end

