-- ==== Sys2Proof/Machine/Dispatch.lean ====
section
/-! DEFINITION. One arm per command (30_encoding.md R84), each one call of its meaning. -/

namespace Sys2Proof.Machine

/-- The meaning of each command. -/
def exec (i : Instr) (s : State) : Host.Outcome State Fault Refusal :=
  match i with
  | .nop => Sys2Proof.Machine.execNop s
  | .anRead idx => Sys2Proof.Machine.execAnRead idx s
  | .anGet idx => Sys2Proof.Machine.execAnGet idx s
  | .anChanged idx => Sys2Proof.Machine.execAnChanged idx s
  | .anCal => Sys2Proof.Machine.execAnCal s
  | .anCalrd idx => Sys2Proof.Machine.execAnCalrd idx s
  | .smUpdate idx v => Sys2Proof.Machine.execSmUpdate idx v s
  | .smReset idx => Sys2Proof.Machine.execSmReset idx s
  | .norm idx v => Sys2Proof.Machine.execNorm idx v s
  | .hyst cur prev thr => Sys2Proof.Machine.execHyst cur prev thr s
  | .btPoll => Sys2Proof.Machine.execBtPoll s
  | .btState idx => Sys2Proof.Machine.execBtState idx s
  | .btPressed idx => Sys2Proof.Machine.execBtPressed idx s
  | .btReleased idx => Sys2Proof.Machine.execBtReleased idx s
  | .rxByte b => Sys2Proof.Machine.execRxByte b s
  | .rxRd idx => Sys2Proof.Machine.execRxRd idx s
  | .rxDt1 => Sys2Proof.Machine.execRxDt1 s
  | .csClr => Sys2Proof.Machine.execCsClr s
  | .csAdd b => Sys2Proof.Machine.execCsAdd b s
  | .csGen => Sys2Proof.Machine.execCsGen s
  | .csVer b => Sys2Proof.Machine.execCsVer b s
  | .txCc p a b => Sys2Proof.Machine.execTxCc p a b s
  | .txPc b => Sys2Proof.Machine.execTxPc b s
  | .txDt1 p b => Sys2Proof.Machine.execTxDt1 p b s
  | .txRq1 => Sys2Proof.Machine.execTxRq1 s
  | .txSeta h m l => Sys2Proof.Machine.execTxSeta h m l s
  | .txSets h m l => Sys2Proof.Machine.execTxSets h m l s
  | .pdUpdate idx imm => Sys2Proof.Machine.execPdUpdate idx imm s
  | .pdGet idx => Sys2Proof.Machine.execPdGet idx s
  | .pdPrev idx => Sys2Proof.Machine.execPdPrev idx s
  | .crRd idx => Sys2Proof.Machine.execCrRd idx s
  | .crWr idx imm => Sys2Proof.Machine.execCrWr idx imm s

end Sys2Proof.Machine
end

