-- ==== Sys2Proof/WellFormed.lean ====
section
/-! DEFINITION. What a legal configuration is (00_scope.md R6, R7) and when a command's index operand names an
element of its index space (20_memory.md R60). The widths of a command's operands are enforced by the types of
`Instr` (30_encoding.md R81): an operand too wide for its field is no term at all. -/

namespace Sys2Proof

/-- The conditions 00_scope.md R7 puts on one PD_TABLE entry. -/
abbrev PdEntry.Legal (e : PdEntry) : Prop :=
  -32768 ≤ e.min ∧ e.min ≤ e.max ∧ e.max ≤ 32767 ∧ e.min ≤ e.init ∧ e.init ≤ e.max ∧ e.alpha ≤ 65536

/-- The legal values of 00_scope.md R6, and R7 for every slot. -/
abbrev Cfg.Legal (c : Cfg) : Prop :=
  (1 ≤ c.adcChips ∧ c.adcChips ≤ 64) ∧ (1 ≤ c.adcCpc ∧ c.adcCpc ≤ 64) ∧ (1 ≤ c.numCh ∧ c.numCh ≤ 1024) ∧
  (1 ≤ c.smoothN ∧ c.smoothN ≤ 1024) ∧ (1 ≤ c.calSamples ∧ c.calSamples ≤ 65535) ∧ c.hystReset ≤ 63 ∧
  (1 ≤ c.btnCount ∧ c.btnCount ≤ 32) ∧ c.debounceMs < 2 ^ 32 ∧ (7 ≤ c.sysexMax ∧ c.sysexMax ≤ 255) ∧
  (1 ≤ c.paramCount ∧ c.paramCount ≤ 1024) ∧ c.rateMs < 2 ^ 32 ∧ c.pdDeadband ≤ 65535 ∧
  c.pdTable.length = c.paramCount ∧ ∀ e ∈ c.pdTable, e.Legal

/-- The five index spaces of 20_memory.md R60. -/
inductive IndexSpace where
  | channel | button | message | slot | register
  deriving DecidableEq, Repr

/-- The index space a command addresses, with the index it names; none for a command without an index
(20_memory.md R60). -/
def Instr.index : Instr → Option (IndexSpace × Nat)
  | .nop => none
  | .anRead i => some (.channel, i.toNat)
  | .anGet i => some (.channel, i.toNat)
  | .anChanged i => some (.channel, i.toNat)
  | .anCal => none
  | .anCalrd i => some (.channel, i.toNat)
  | .smUpdate i _ => some (.channel, i.toNat)
  | .smReset i => some (.channel, i.toNat)
  | .norm i _ => some (.channel, i.toNat)
  | .hyst _ _ _ => none
  | .btPoll => none
  | .btState i => some (.button, i.toNat)
  | .btPressed i => some (.button, i.toNat)
  | .btReleased i => some (.button, i.toNat)
  | .rxByte _ => none
  | .rxRd i => some (.message, i.toNat)
  | .rxDt1 => none
  | .csClr => none
  | .csAdd _ => none
  | .csGen => none
  | .csVer _ => none
  | .txCc i _ _ => some (.slot, i.toNat)
  | .txPc _ => none
  | .txDt1 i _ => some (.slot, i.toNat)
  | .txRq1 => none
  | .txSeta _ _ _ => none
  | .txSets _ _ _ => none
  | .pdUpdate i _ => some (.slot, i.toNat)
  | .pdGet i => some (.slot, i.toNat)
  | .pdPrev i => some (.slot, i.toNat)
  | .crRd i => some (.register, i.toNat)
  | .crWr i _ => some (.register, i.toNat)

/-- How many elements an index space has: NUM_CH, BTN_COUNT, the length `msgLen` of the latched message (0 while no
message is latched), PARAM_COUNT, or the eight control registers (20_memory.md R60). -/
def IndexSpace.size (c : Cfg) (msgLen : Nat) : IndexSpace → Nat
  | .channel => c.numCh
  | .button => c.btnCount
  | .message => msgLen
  | .slot => c.paramCount
  | .register => 8

/-- A command is well formed for a configuration and a latched message when its index, if it has one, is inside its
index space (20_memory.md R60). A command that is not still decodes (30_encoding.md R87): execution refuses it with
BAD_INDEX or INVALID_PARAM. -/
def Instr.wellFormed (c : Cfg) (msgLen : Nat) (i : Instr) : Bool :=
  match i.index with
  | none => true
  | some (space, k) => decide (k < space.size c msgLen)

end Sys2Proof
end

