-- ==== Sys2Proof/Machine/Service.lean ====
section
/-! DEFINITION. How the HBSC serves its host: a command word decoded and executed (10_state.md R22), a reset between
commands (70_reset_and_hazards.md R280) or during one (R281), and idling (60_exceptions.md R261). -/

namespace Sys2Proof.Machine

/-- One command word: its command's meaning, or ILLEGAL_CMD for an undecodable word (30_encoding.md R85,
60_exceptions.md R252). -/
def runWord (w : BitVec 32) (s : State) : Host.Outcome State Fault Refusal :=
  match decode w with
  | .command i => exec i s
  | .illegal _ => .next (s.raise .illegalCmd)

/-- A reset while the command `w` is executing, on the state that accepted it (70_reset_and_hazards.md R281): the state
is the reset state; the ports saw a prefix of what the command does. DESIGN CHOICE, log entry 10. -/
def abortWord (w : BitVec 32) (s : State) : Host.Outcome State Fault Refusal :=
  match runWord w s with
  | .next t => .next (s.resetNow.setPorts (s.ports.abort t.ports))
  | .fault r => .fault r
  | .refused r => .refused r

/-- One event from the host. -/
def serveEvent (e : HostEvent) (s : State) : Host.Outcome State Fault Refusal :=
  match e with
  | .command w => runWord w s
  | .reset => .next s.resetNow
  | .resetDuring w => abortWord w s

/-- The ports with the first waiting event taken. -/
def Ports.takeEvent (p : Ports) : Ports := { p with cmdIn := p.cmdIn.tail }

/-- One step: the next event is taken and served; with none waiting the block idles and all its state survives
(60_exceptions.md R261). An illegal configuration is refused before anything else (00_scope.md R7; DEDUCED, log entry
11). -/
def serve (s : State) : Host.Outcome State Fault Refusal :=
  if s.cfg.Legal then
    match s.ports.cmdIn with
    | [] => .next s
    | e :: _ => serveEvent e (s.setPorts s.ports.takeEvent)
  else .fault .illegalConfiguration

/-- The ports with a command word presented ahead of whatever waits. -/
def Ports.present (p : Ports) (w : BitVec 32) : Ports := { p with cmdIn := .command w :: p.cmdIn }

/-- The command word made of a table row's bits (30_encoding.md R80). -/
def tableWord (nbits w : Nat) : BitVec 32 := BitVec.ofNat 32 (w % 2 ^ nbits)

end Sys2Proof.Machine
end

