-- ==== Sys2Proof/Machine/Step.lean ====
section
/-! DEFINITION. The step of the machine, and where a step finds its next command. -/

namespace Sys2Proof.Machine

/-- One step of the HBSC: serve the next event of the host (10_state.md R21, R22). -/
def step (s : State) : Host.Outcome State Fault Refusal := serve s

/-- `s` with the command word of a table row presented at the command port, so that the next step runs it. The HBSC
fetches nothing (10_state.md R21): its host presents each word. DESIGN CHOICE, log entry 3. -/
def State.withFetchWord (s : State) (nbits w : Nat) : State := s.setPorts (s.ports.present (tableWord nbits w))

end Sys2Proof.Machine
end

