-- ==== Sys2Proof/Safety.lean ====
section
/-! DEFINITION. What a good state and a good run are, in the terms the statements use: the invariant that the spec's rules
keep, a sequence of commands in arrival order, and which fields belong to which unit. -/

namespace Sys2Proof.Machine

/-- One channel is as 10_state.md R30 and R31 say: the window has SMOOTH_N = `n` samples, the running sum is their sum,
the write index is inside the window, and the calibration range is ordered or still the reset range `(1023, 0)`. -/
abbrev Channel.Inv (n : Nat) (c : Channel) : Prop :=
  c.smBuf.length = n ∧ c.smSum.toNat = (c.smBuf.map BitVec.toNat).sum ∧ c.smIdx.toNat < n ∧
  (c.calMin.toNat ≤ c.calMax.toNat ∨ (c.calMin.toNat = Config.maxRaw ∧ c.calMax.toNat = 0))

/-- One slot's detector is inside its range (43_param.md R224 (a)). -/
abbrev Slot.Inv (e : PdEntry) (x : Slot) : Prop :=
  (e.min * Config.pdOne ≤ x.pdAcc.toInt ∧ x.pdAcc.toInt ≤ e.max * Config.pdOne) ∧
  (e.min ≤ x.pdVal.toInt ∧ x.pdVal.toInt ≤ e.max) ∧ (e.min ≤ x.pdPrev.toInt ∧ x.pdPrev.toInt ≤ e.max)

/-- The states the spec's rules lead to from reset: every list has the size the configuration gives it, and every field
keeps the range its rule states. -/
structure State.Inv (s : State) : Prop where
  /-- 00_scope.md R6, R7. -/
  cfgLegal : s.cfg.Legal
  /-- 60_exceptions.md R250, R254: a code of the table, never BUFFER_OVERFLOW. -/
  status : s.rstat.toNat ≤ 8 ∧ s.rstat.toNat ≠ 4
  /-- 10_state.md R30 to R32. -/
  chanCount : s.chans.length = s.cfg.numCh
  chanInv : ∀ c ∈ s.chans, c.Inv s.cfg.smoothN
  /-- 10_state.md R33. -/
  buttonCount : s.buttons.length = s.cfg.btnCount
  /-- 10_state.md R34: the buffer's size, and RX_LEN below SYSEX_MAX between commands. -/
  rxSize : s.rxBuf.length = s.cfg.sysexMax ∧ s.rxLen.toNat < s.cfg.sysexMax
  /-- 42_serial.md R160: Idle holds no byte; Accumulating starts with 0xF0. -/
  rxShape : if s.rxInprog then 1 ≤ s.rxLen.toNat ∧ s.rxBuf.getD 0 0 = startByte else s.rxLen = 0
  /-- 10_state.md R35. -/
  msgSize : s.msg.length = s.cfg.sysexMax ∧ s.msgLen.toNat ≤ s.cfg.sysexMax
  /-- 42_serial.md R163, R164: a latched message validates and is framed by 0xF0 and 0xF7; without one MSG_LEN is 0. -/
  msgShape : if s.msgValid then validate s.msg s.msgLen.toNat = true ∧ s.msgByte 0 = startByte ∧
    s.msgByte (s.msgLen.toNat - 1) = endByte else s.msgLen = 0
  /-- 10_state.md R38, R39; 43_param.md R224. -/
  slotCount : s.slots.length = s.cfg.paramCount
  slotInv : ∀ p, p < s.cfg.paramCount → (s.slot p).Inv (s.cfg.pd p)
  /-- 10_state.md R43: CHANNEL is always in 1..16. -/
  channelRange : 1 ≤ s.channel.toNat ∧ s.channel.toNat ≤ 16

/-- Commands in the order they arrive, each on the state its predecessor left (20_memory.md R66). -/
def execAll : List Instr → State → Host.Outcome State Fault Refusal
  | [], s => .next s
  | i :: is, s =>
    match exec i s with
    | .next t => execAll is t
    | .fault r => .fault r
    | .refused r => .refused r

/-- Two states are the same but for bytes of RX_BUF at and above RX_LEN, which no rule reads (10_state.md R34, R41). -/
def State.SameButRxTail (s t : State) : Prop :=
  t = { s with rxBuf := t.rxBuf } ∧ t.rxBuf.length = s.rxBuf.length ∧
  ∀ k, k < s.rxLen.toNat → t.rxBuf.getD k 0 = s.rxBuf.getD k 0

/-- One button polled at several (level, time) samples in order (41_buttons.md R142). -/
def Button.debounceAll (b : Button) (debounceMs : Nat) (polls : List (Bool × BitVec 32)) : Button :=
  polls.foldl (fun b x => b.debounce debounceMs x.1 x.2) b

/-- One channel's smoother fed several samples in order (40_analog.md R102). -/
def Channel.feed (c : Channel) (n : Nat) (samples : List (BitVec 10)) : Channel :=
  samples.foldl (fun c x => c.smUpdate n x) c

/-- One slot's filter fed the same input several times (43_param.md R221). -/
def Slot.settle (x : Slot) (e : PdEntry) (input : Int) : Nat → Slot
  | 0 => x
  | k + 1 => (x.settle e input k).filter e input

end Sys2Proof.Machine
end

