-- ==== Sys2Proof/Certificates/Slice0/Obligations.lean ====
section
/-! DEFINITION. The statements for the provers, made from the numbered rules of spec/. A status is written as its 4-bit
code (60_exceptions.md R250): 0 OK, 1 INVALID_CHANNEL, 2 INVALID_PARAM, 3 OUT_OF_RANGE, 5 CHECKSUM_ERROR, 6 MALFORMED,
7 ILLEGAL_CMD, 8 BAD_INDEX. `s.answer code d` is `s` with RSTAT and RDATA replaced, so an equation
`exec i s = .next (… .answer code d)` says what the command changes and that it changes nothing else. -/

open Sys2Proof Sys2Proof.Machine

/-! ## Encoding -/

/-- 30_encoding.md R81, R84, R85: decoding the encoding of any command, with any operands, gives the command back. -/
def Obligations.DecodeEncodeAgree : Prop :=
  ∀ i : Instr, decode (encode i) = .command i

/-- 30_encoding.md R80, R81, R86: a command has one word; a word that decodes to it is its encoding. -/
def Obligations.DecodedWordIsItsEncoding : Prop :=
  ∀ (w : Word) (i : Instr), decode w = .command i → encode i = w

/-- 30_encoding.md R84: the opcode map, `match_M = op_M << 26`, `mask_M` covers the opcode and the reserved bits of the
format, no two rows match the same word, and a word decodes as M exactly when `(word & mask_M) == match_M`. -/
def Obligations.WordDecodesIffItMatchesItsRow : Prop :=
  opcodeMap.map (fun r => (r.mnemonic, r.op, r.mnemonic.format)) =
    [(.nop, 0x00#6, .N),
     (.anRead, 0x01#6, .X),
     (.anGet, 0x02#6, .X),
     (.anChanged, 0x03#6, .X),
     (.anCal, 0x04#6, .N),
     (.anCalrd, 0x05#6, .X),
     (.smUpdate, 0x06#6, .V),
     (.smReset, 0x07#6, .X),
     (.norm, 0x08#6, .V),
     (.hyst, 0x09#6, .H),
     (.btPoll, 0x10#6, .N),
     (.btState, 0x11#6, .X),
     (.btPressed, 0x12#6, .X),
     (.btReleased, 0x13#6, .X),
     (.rxByte, 0x18#6, .B),
     (.rxRd, 0x19#6, .X),
     (.rxDt1, 0x1a#6, .N),
     (.csClr, 0x1c#6, .N),
     (.csAdd, 0x1d#6, .B),
     (.csGen, 0x1e#6, .N),
     (.csVer, 0x1f#6, .B),
     (.txCc, 0x20#6, .T),
     (.txPc, 0x21#6, .B),
     (.txDt1, 0x22#6, .P),
     (.txRq1, 0x23#6, .N),
     (.txSeta, 0x24#6, .A),
     (.txSets, 0x25#6, .A),
     (.pdUpdate, 0x28#6, .I),
     (.pdGet, 0x29#6, .X),
     (.pdPrev, 0x2a#6, .X),
     (.crRd, 0x30#6, .X),
     (.crWr, 0x31#6, .I)] ∧
  (∀ r ∈ opcodeMap, r.pattern = r.op.setWidth 32 <<< 26 ∧ r.mask &&& 0xFC000000#32 = 0xFC000000#32 ∧
    r.mask = match r.mnemonic.format with
      | .N => 0xFFFFFFFF#32
      | .X => 0xFC00FFFF#32
      | .V => 0xFC00FC00#32
      | .H | .T | .I => 0xFC000000#32
      | .B => 0xFFFFFF00#32
      | .P => 0xFC00FF00#32
      | .A => 0xFFE00000#32) ∧
  opcodeMap.Pairwise (fun r q => ∀ w : Word, ¬(w &&& r.mask = r.pattern ∧ w &&& q.mask = q.pattern)) ∧
  ∀ w : Word, ∀ r ∈ opcodeMap,
    (∃ i, decode w = .command i ∧ i.mnemonic = r.mnemonic) ↔ w &&& r.mask = r.pattern

/-- 30_encoding.md R86: the illegal words are exactly those with (a) an unassigned opcode or (b) an assigned opcode and a
1 in a reserved field, and such a word has no effect other than RSTAT = ILLEGAL_CMD and RDATA = 0. -/
def Obligations.IllegalWordsAreExactlyTheReservedOnes : Prop :=
  (∀ w : Word, decode w = .illegal .unassignedOpcode ↔
    (opField w).toNat ∈ [0x0A, 0x0B, 0x0C, 0x0D, 0x0E, 0x0F, 0x14, 0x15, 0x16, 0x17, 0x1B, 0x26, 0x27, 0x2B, 0x2C, 0x2D, 0x2E, 0x2F, 0x32, 0x33, 0x34, 0x35, 0x36, 0x37, 0x38, 0x39, 0x3A, 0x3B, 0x3C, 0x3D, 0x3E, 0x3F]) ∧
  (∀ w : Word, decode w = .illegal .reservedBits ↔
    ∃ r ∈ opcodeMap, r.op = opField w ∧ w &&& (r.mask &&& 0x03FFFFFF#32) ≠ 0#32) ∧
  ∀ (w : Word) (why : IllegalReason) (s : State), decode w = .illegal why → runWord w s = .next (s.answer 7 0)

/-- The words 30_encoding.md R89 writes out, and one word of each further family, decode to the commands they stand
for. -/
def Obligations.SampleWordsDecode : Prop :=
  decode 0x04000000 = .command (.anRead 0) ∧ decode 0x25F47CC2 = .command (.hyst 500 499 2) ∧
  decode 0x900000C0 = .command (.txSeta 0 1 0x40) ∧ decode 0x88000040 = .command (.txDt1 0 64) ∧
  decode 0xC4000002 = .command (.crWr 0 2) ∧ decode 0xA001FFEC = .command (.pdUpdate 1 0xFFEC) ∧
  decode 0x4C040000 = .command (.btReleased 4) ∧ decode 0x600000F7 = .command (.rxByte 0xF7) ∧
  decode 0x00000001 = .illegal .reservedBits ∧ decode 0x28000000 = .illegal .unassignedOpcode

/-! ## The step: commands, idling, reset -/

/-- 10_state.md R22, 30_encoding.md R85, 60_exceptions.md R252: when the next event is a command word, the step runs the
command it decodes to, on the state with that word taken from the port; an undecodable word is ILLEGAL_CMD. That the
words to come wait in a list of the state is the model's form of the command port (log entry 3). -/
def Obligations.StepRunsTheDecodedCommand : Prop :=
  ∀ (s : State) (w : Word) (rest : List HostEvent), s.cfg.Legal → s.ports.cmdIn = .command w :: rest →
    (∀ i, decode w = .command i → step s = exec i (s.setPorts { s.ports with cmdIn := rest })) ∧
    (∀ why, decode w = .illegal why →
      step s = .next ((s.setPorts { s.ports with cmdIn := rest }).answer 7 0))

/-- 60_exceptions.md R261 and 00_scope.md R7. With nothing waiting the block idles and all its state survives. That a
configuration outside R6 and R7 ends in the named fault is the model's form of "a model refuses it" (log entry 11). -/
def Obligations.StepIdlesAndRefusesIllegalConfigurations : Prop :=
  ∀ s : State, (s.cfg.Legal → s.ports.cmdIn = [] → step s = .next s) ∧
    (¬s.cfg.Legal → step s = .fault .illegalConfiguration)

/-- 70_reset_and_hazards.md R280: the reset input gives every state field its reset value; the configuration is not
changed, no byte is emitted and no input port is sampled. That the reset is one event of the model's command list is the
model's form of the reset input (log entries 3 and 19). That RX_BUF, which R47 leaves unspecified, becomes zeros is the
model's choice (log entry 9), and that HYST_T becomes HYST_RESET is its deduction (log entry 15). -/
def Obligations.ResetRestoresEveryField : Prop :=
  ∀ (s : State) (rest : List HostEvent), s.cfg.Legal → s.ports.cmdIn = .reset :: rest →
    step s = .next ((State.resetOf s.cfg).setPorts { s.ports with cmdIn := rest })

/-- 10_state.md R47, with R42, R45 and 00_scope.md R6 for HYST_T: the reset values, field by field, for every legal
configuration. RX_BUF is unspecified in R47, and nothing is said of it here. That HYST_T resets to HYST_RESET for every legal
HYST_RESET is the model's deduction (log entry 15); R47's table gives 2, the decided value. -/
def Obligations.ResetValuesOfEveryField : Prop :=
  ∀ c : Cfg, c.Legal → let s := State.resetOf c
    s.rstat = 0 ∧ s.rdata = 0 ∧
    s.chans.length = c.numCh ∧ (∀ x ∈ s.chans, x.smBuf = List.replicate c.smoothN 0 ∧ x.smSum = 0 ∧ x.smIdx = 0 ∧
      x.calMin = 1023 ∧ x.calMax = 0 ∧ x.anVal = 0 ∧ x.anChg = false) ∧
    s.buttons.length = c.btnCount ∧ (∀ b ∈ s.buttons, b.st = false ∧ b.prv = false ∧ b.pend = false ∧ b.tchg = 0) ∧
    s.rxInprog = false ∧ s.rxLen = 0 ∧ s.msgValid = false ∧ s.msgLen = 0 ∧ s.msg = List.replicate c.sysexMax 0 ∧
    s.csum = 0 ∧ s.txa = ⟨0, 0, 0⟩ ∧ s.txs = ⟨0, 0, 0⟩ ∧
    s.slots.length = c.paramCount ∧ (∀ p, p < c.paramCount → (s.slot p).rlValid = false ∧ (s.slot p).rlLast = 0 ∧
      (s.slot p).pdAcc.toInt = (c.pd p).init * 65536 ∧ (s.slot p).pdVal.toInt = (c.pd p).init ∧
      (s.slot p).pdPrev.toInt = (c.pd p).init) ∧
    s.channel = 1 ∧ s.mfrId = 0x41 ∧ s.modelId = 0x14 ∧ s.hystT.toNat = c.hystReset ∧
    (c.hystReset = 2 → s.hystT = 2)

/-- 70_reset_and_hazards.md R281: a reset while a command is executing leaves the reset state, RSTAT and RDATA included,
and the transmit stream has received some prefix of that command's bytes. The prefix's length and the input ports' other
side are the model's free choice (log entry 10). That RX_BUF, which 10_state.md R47 leaves unspecified, becomes zeros is the
model's choice (log entry 9), and that HYST_T becomes HYST_RESET is its deduction (log entry 15). -/
def Obligations.ResetDuringACommandEmitsAPrefix : Prop :=
  ∀ (s t : State) (w : Word) (rest : List HostEvent), s.cfg.Legal → s.ports.cmdIn = .resetDuring w :: rest →
    runWord w (s.setPorts { s.ports with cmdIn := rest }) = .next t →
    ∃ p n, step s = .next ((State.resetOf s.cfg).setPorts p) ∧ p.cmdIn = rest ∧
      p.tx = s.ports.tx ++ (t.ports.tx.drop s.ports.tx.length).take n

/-! ## Control commands -/

/-- 44_control.md R240: NOP only answers, and op 0x00 with any non-zero bit is ILLEGAL. -/
def Obligations.NopOnlyAnswers : Prop :=
  (∀ s : State, exec .nop s = .next (s.answer 0 0)) ∧ decode 0 = .command .nop ∧
  ∀ w : Word, opField w = 0 → w ≠ 0 → decode w = .illegal .reservedBits

/-- 44_control.md R241: CR_RD returns the eight control registers as 10_state.md R42 packs them; above 7, BAD_INDEX. -/
def Obligations.CrRdReturnsTheRegister : Prop :=
  ∀ s : State,
    exec (.crRd 0) s = .next (s.answer 0 (BitVec.ofNat 32 s.channel.toNat)) ∧
    exec (.crRd 1) s = .next (s.answer 0 (BitVec.ofNat 32 s.mfrId.toNat)) ∧
    exec (.crRd 2) s = .next (s.answer 0 (BitVec.ofNat 32 s.modelId.toNat)) ∧
    exec (.crRd 3) s = .next (s.answer 0 (BitVec.ofNat 32 s.hystT.toNat)) ∧
    exec (.crRd 4) s = .next (s.answer 0 (BitVec.ofNat 32 (s.rxInprog.toNat + 2 * s.msgValid.toNat +
      256 * s.rxLen.toNat + 65536 * (if s.msgValid then s.msgLen.toNat else 0)))) ∧
    exec (.crRd 5) s = .next (s.answer 0 (BitVec.ofNat 32 s.csum.toNat)) ∧
    exec (.crRd 6) s = .next (s.answer 0 (BitVec.ofNat 32
      (16384 * s.txa.h.toNat + 128 * s.txa.m.toNat + s.txa.l.toNat))) ∧
    exec (.crRd 7) s = .next (s.answer 0 (BitVec.ofNat 32
      (16384 * s.txs.h.toNat + 128 * s.txs.m.toNat + s.txs.l.toNat))) ∧
    ∀ r : BitVec 10, 7 < r.toNat → exec (.crRd r) s = .next (s.answer 8 0)

/-- 44_control.md R242: CR_WR's checks in order, and the register it writes. -/
def Obligations.CrWrWritesLegalValuesOnly : Prop :=
  ∀ (s : State) (r : BitVec 10) (v : BitVec 16),
    (7 < r.toNat → exec (.crWr r v) s = .next (s.answer 8 0)) ∧
    (4 ≤ r.toNat ∧ r.toNat ≤ 7 → exec (.crWr r v) s = .next (s.answer 7 0)) ∧
    exec (.crWr 0 v) s = .next (if v.toNat < 1 ∨ 16 < v.toNat then s.answer 1 0
      else ({ s with channel := BitVec.ofNat 5 v.toNat } : State).answer 0 0) ∧
    exec (.crWr 1 v) s = .next (if 0x7F < v.toNat then s.answer 3 0
      else ({ s with mfrId := BitVec.ofNat 7 v.toNat } : State).answer 0 0) ∧
    exec (.crWr 2 v) s = .next (if 0x7F < v.toNat then s.answer 3 0
      else ({ s with modelId := BitVec.ofNat 7 v.toNat } : State).answer 0 0) ∧
    exec (.crWr 3 v) s = .next (if 63 < v.toNat then s.answer 3 0
      else ({ s with hystT := BitVec.ofNat 6 v.toNat } : State).answer 0 0)

/-- 44_control.md R241, R242: a register that CR_WR accepted reads back as the value written. -/
def Obligations.CrReadsBackWhatWasWritten : Prop :=
  ∀ (s t : State) (r : BitVec 10) (v : BitVec 16), exec (.crWr r v) s = .next t → t.rstat = 0 →
    exec (.crRd r) t = .next (t.answer 0 (v.setWidth 32))

/-! ## Analog conditioner -/

/-- 40_analog.md R102: `SmUpdate` evicts the oldest sample, admits the new one, advances the index circularly and
returns `sum / N`; the sums and the result fit their widths and the invariant of 10_state.md R30 is preserved. -/
def Obligations.SmoothingEvictsAdmitsAndAdvances : Prop :=
  ∀ (n : Nat) (c : Channel) (raw : BitVec 10), 1 ≤ n → n ≤ 1024 → c.Inv n →
    let u := c.smUpdate n raw
    let old := c.smBuf.getD c.smIdx.toNat 0
    old.toNat ≤ c.smSum.toNat ∧ u.smSum.toNat = c.smSum.toNat - old.toNat + raw.toNat ∧
    u.smSum.toNat ≤ n * 1023 ∧ u.smBuf = c.smBuf.set c.smIdx.toNat raw ∧
    u.smIdx.toNat = (c.smIdx.toNat + 1) % n ∧ (u.smoothed n).toNat = u.smSum.toNat / n ∧ u.Inv n ∧
    u.calMin = c.calMin ∧ u.calMax = c.calMax ∧ u.anVal = c.anVal ∧ u.anChg = c.anChg

/-- 40_analog.md R113 and R114: SM_UPDATE feeds one sample to the named channel's smoother and returns the smoothed
value; SM_RESET zeroes its buffer, sum and index (R103). Nothing else changes. -/
def Obligations.SmUpdateAndSmResetActOnOneSmoother : Prop :=
  ∀ (s : State) (ch v : BitVec 10),
    (s.cfg.numCh ≤ ch.toNat →
      exec (.smUpdate ch v) s = .next (s.answer 8 0) ∧ exec (.smReset ch) s = .next (s.answer 8 0)) ∧
    (ch.toNat < s.cfg.numCh →
      exec (.smUpdate ch v) s = .next ((s.setChan ch.toNat ((s.chan ch.toNat).smUpdate s.cfg.smoothN v)).answer 0
        ((((s.chan ch.toNat).smUpdate s.cfg.smoothN v).smoothed s.cfg.smoothN).setWidth 32)) ∧
      exec (.smReset ch) s = .next ((s.setChan ch.toNat { s.chan ch.toNat with
        smBuf := List.replicate s.cfg.smoothN 0, smSum := 0, smIdx := 0 }).answer 0 0))

/-- 40_analog.md R110: AN_READ makes one ADC transfer for its channel, smooths, normalizes, applies the hysteresis against
the cache, caches a differing value and sets the flag, and returns the cache. A bad index makes no transfer. The sample
list and the request log are the model's form of the ADC port (log entries 4 and 8). -/
def Obligations.AnReadConditionsOneSample : Prop :=
  ∀ (s : State) (ch : BitVec 10),
    (s.cfg.numCh ≤ ch.toNat → exec (.anRead ch) s = .next (s.answer 8 0)) ∧
    (ch.toNat < s.cfg.numCh →
      let chip := ch.toNat / s.cfg.adcCpc
      let chan := ch.toNat % s.cfg.adcCpc
      let c := s.chan ch.toNat
      let u := c.smUpdate s.cfg.smoothN (s.ports.adcSample chip chan)
      let h := hystValue (u.normalize (u.smoothed s.cfg.smoothN)) c.anVal s.hystT
      exec (.anRead ch) s = .next (((s.setPorts (s.ports.afterAdc chip chan)).setChan ch.toNat
        { u with anVal := h, anChg := c.anChg || h != c.anVal }).answer 0 (h.setWidth 32)))

/-- 40_analog.md R111, R112, R117: AN_GET returns the cache, AN_CHANGED returns and clears the flag, AN_CALRD returns
`{6'b0, CAL_MAX, 6'b0, CAL_MIN}`; a bad index is BAD_INDEX and clears nothing. -/
def Obligations.AnalogReadCommandsReturnTheirField : Prop :=
  ∀ (s : State) (ch : BitVec 10),
    (s.cfg.numCh ≤ ch.toNat → exec (.anGet ch) s = .next (s.answer 8 0) ∧
      exec (.anChanged ch) s = .next (s.answer 8 0) ∧ exec (.anCalrd ch) s = .next (s.answer 8 0)) ∧
    (ch.toNat < s.cfg.numCh →
      exec (.anGet ch) s = .next (s.answer 0 (BitVec.ofNat 32 (s.chan ch.toNat).anVal.toNat)) ∧
      exec (.anChanged ch) s = .next ((s.setChan ch.toNat { s.chan ch.toNat with anChg := false }).answer 0
        (BitVec.ofNat 32 (s.chan ch.toNat).anChg.toNat)) ∧
      exec (.anCalrd ch) s = .next (s.answer 0
        (BitVec.ofNat 32 (65536 * (s.chan ch.toNat).calMax.toNat + (s.chan ch.toNat).calMin.toNat))))

/-- 40_analog.md R112, 70_reset_and_hazards.md R291: a change is delivered at most once; a second AN_CHANGED with no
AN_READ between returns 0. -/
def Obligations.ChangeFlagIsDeliveredAtMostOnce : Prop :=
  ∀ (s : State) (ch : BitVec 10) (between : List Instr), s.Inv → ch.toNat < s.cfg.numCh →
    (∀ i ∈ between, ∀ k, i ≠ .anRead k) →
    ∃ t, execAll (.anChanged ch :: (between ++ [.anChanged ch])) s = .next t ∧ t.rstat = 0 ∧ t.rdata = 0

/-- 40_analog.md R116, 20_memory.md R68: from every state AN_CAL makes CAL_SAMPLES transfers for channel 0, then for channel
1, and so on; it changes only the channels and the ADC port's side, and every smoother is reset. The sample list and the
request log are the model's form of the ADC port (log entries 4 and 8). -/
def Obligations.CalibrationTransfersInChannelOrder : Prop :=
  ∀ s : State, ∃ t, exec .anCal s = .next t ∧
    t = { s with rstat := 0, rdata := 0, chans := t.chans, ports := { s.ports with
      adcIn := s.ports.adcIn.drop (s.cfg.numCh * s.cfg.calSamples)
      adcLog := s.ports.adcLog ++ (List.range s.cfg.numCh).flatMap fun ch =>
        List.replicate s.cfg.calSamples ⟨ch / s.cfg.adcCpc, ch % s.cfg.adcCpc⟩ } } ∧
    t.chans.length = s.chans.length ∧
    ∀ c ∈ t.chans, c.smBuf = List.replicate s.cfg.smoothN 0 ∧ c.smSum = 0 ∧ c.smIdx = 0

/-- 40_analog.md R116: AN_CAL widens each channel's range from its current value by exactly that channel's samples, resets
every smoother and leaves the caches and flags. The sample list is the model's form of the ADC port (log entry 4). -/
def Obligations.CalibrationWidensEachRange : Prop :=
  ∀ (s : State) (samples rest : List (BitVec 10)), s.Inv → s.ports.adcIn = samples ++ rest →
    samples.length = s.cfg.numCh * s.cfg.calSamples →
    ∃ t, exec .anCal s = .next t ∧ t.ports.adcIn = rest ∧
      ∀ ch, ch < s.cfg.numCh →
        let own := (samples.drop (ch * s.cfg.calSamples)).take s.cfg.calSamples
        let c := s.chan ch
        let d := t.chan ch
        d.calMin.toNat = (own.map BitVec.toNat).foldl min c.calMin.toNat ∧
        d.calMax.toNat = (own.map BitVec.toNat).foldl max c.calMax.toNat ∧
        d.smBuf = List.replicate s.cfg.smoothN 0 ∧ d.smSum = 0 ∧ d.smIdx = 0 ∧ d.anVal = c.anVal ∧ d.anChg = c.anChg

/-- 40_analog.md R104, R115: NORM returns the normalized value and changes nothing; the identity test comes first. -/
def Obligations.NormRescalesTheCalibratedRange : Prop :=
  ∀ (s : State) (ch v : BitVec 10),
    (s.cfg.numCh ≤ ch.toNat → exec (.norm ch v) s = .next (s.answer 8 0)) ∧
    (ch.toNat < s.cfg.numCh →
      let lo := (s.chan ch.toNat).calMin.toNat
      let hi := (s.chan ch.toNat).calMax.toNat
      exec (.norm ch v) s = .next (s.answer 0 (BitVec.ofNat 32
        (if hi ≤ lo then v.toNat else if v.toNat ≤ lo then 0 else if hi ≤ v.toNat then 1023
         else (v.toNat - lo) * 1023 / (hi - lo)))))

/-- 40_analog.md R106 (b), (c): for a calibrated channel the range's ends normalize to 0 and 1023, and normalization is
non-decreasing, calibrated or not. -/
def Obligations.NormalizationIsMonotoneWithFixedEnds : Prop :=
  ∀ c : Channel,
    (c.calMin.toNat < c.calMax.toNat → c.normalize c.calMin = 0 ∧ c.normalize c.calMax = 1023) ∧
    ∀ v w : BitVec 10, v.toNat ≤ w.toNat → (c.normalize v).toNat ≤ (c.normalize w).toNat

/-- 40_analog.md R105, R118: HYST returns `prev` when `|cur - prev| < thr` on integers, else `cur`, and reads no state. -/
def Obligations.HystReturnsPrevInsideTheThreshold : Prop :=
  ∀ (s : State) (cur prev : BitVec 10) (thr : BitVec 6),
    exec (.hyst cur prev thr) s = .next (s.answer 0 (BitVec.ofNat 32
      (if max cur.toNat prev.toNat - min cur.toNat prev.toNat < thr.toNat then prev.toNat else cur.toNat)))

/-- 40_analog.md R106 (a): SMOOTH_N updates with the same sample, from any state, leave a window of that sample, its sum,
and a result equal to it. -/
def Obligations.SmootherConvergesToAConstantInput : Prop :=
  ∀ (s : State) (ch v : BitVec 10), s.Inv → ch.toNat < s.cfg.numCh →
    ∃ t, execAll (List.replicate s.cfg.smoothN (.smUpdate ch v)) s = .next t ∧ t.rstat = 0 ∧
      t.rdata = v.setWidth 32 ∧ (t.chan ch.toNat).smBuf = List.replicate s.cfg.smoothN v ∧
      (t.chan ch.toNat).smSum.toNat = s.cfg.smoothN * v.toNat

/-- 70_reset_and_hazards.md R290: after the window is zeroed, the k-th sample's smoothed value is the sum of the first k
samples divided by SMOOTH_N. -/
def Obligations.SmootherRampsFromAZeroedWindow : Prop :=
  ∀ (n : Nat) (c : Channel) (samples : List (BitVec 10)), 1 ≤ n → n ≤ 1024 → samples.length ≤ n →
    c.smBuf = List.replicate n 0 → c.smSum = 0 → c.smIdx = 0 →
    ((c.feed n samples).smoothed n).toNat = (samples.map BitVec.toNat).sum / n

/-! ## Buttons -/

/-- 41_buttons.md R142: the debounce step for one button. -/
def Obligations.DebounceFollowsTheRule : Prop :=
  ∀ (b : Button) (debounceMs : Nat) (r : Bool) (now : BitVec 32),
    let d := b.debounce debounceMs r now
    d.prv = b.st ∧
    (r = b.st → d.st = b.st ∧ d.pend = false ∧ d.tchg = b.tchg) ∧
    (r ≠ b.st → d.tchg = (if b.pend then b.tchg else now) ∧
      (debounceMs ≤ (now - d.tchg).toNat → d.st = r ∧ d.pend = false) ∧
      ((now - d.tchg).toNat < debounceMs → d.st = b.st ∧ d.pend = true))

/-- 41_buttons.md R144: BT_POLL samples the time and the pins once, debounces every button against its inverted pin, and
returns the press edges; bits at and above BTN_COUNT are 0. The input lists are the model's form of the two ports (log
entries 5 and 6). -/
def Obligations.BtPollDebouncesEveryButton : Prop :=
  ∀ s : State, s.Inv → ∃ t, exec .btPoll s = .next t ∧
    t = { s with rstat := 0, rdata := t.rdata, buttons := t.buttons, ports := { s.ports with
      pinsIn := s.ports.pinsIn.tail, pinsCount := s.ports.pinsCount + 1
      nowIn := s.ports.nowIn.tail, nowCount := s.ports.nowCount + 1 } } ∧
    t.buttons.length = s.cfg.btnCount ∧
    (∀ i, i < s.cfg.btnCount →
      t.button i = (s.button i).debounce s.cfg.debounceMs (!s.ports.pins.getLsbD i) s.ports.now) ∧
    ∀ i, i < 32 → t.rdata.getLsbD i = (decide (i < s.cfg.btnCount) && ((t.button i).st && !(t.button i).prv))

/-- 41_buttons.md R145, R146, R147: the level and the two edges of one button, read without clearing them. -/
def Obligations.ButtonReadCommandsReturnLevelAndEdges : Prop :=
  ∀ (s : State) (i : BitVec 10),
    (s.cfg.btnCount ≤ i.toNat → exec (.btState i) s = .next (s.answer 8 0) ∧
      exec (.btPressed i) s = .next (s.answer 8 0) ∧ exec (.btReleased i) s = .next (s.answer 8 0)) ∧
    (i.toNat < s.cfg.btnCount →
      exec (.btState i) s = .next (s.answer 0 (if (s.button i.toNat).st then 1 else 0)) ∧
      exec (.btPressed i) s = .next (s.answer 0
        (if (s.button i.toNat).st = true ∧ (s.button i.toNat).prv = false then 1 else 0)) ∧
      exec (.btReleased i) s = .next (s.answer 0
        (if (s.button i.toNat).st = false ∧ (s.button i.toNat).prv = true then 1 else 0)))

/-- 41_buttons.md R148 (a): polls that all fall inside one debounce interval, whatever levels they see, never flip the
state of a button that had no change pending. -/
def Obligations.NoFlipInsideTheDebounceInterval : Prop :=
  ∀ (b : Button) (debounceMs : Nat) (t0 : BitVec 32) (polls : List (Bool × Nat)), b.pend = false →
    debounceMs < 2 ^ 32 → polls.Pairwise (fun x y => x.2 ≤ y.2) → (∀ x ∈ polls, x.2 < debounceMs) →
    (b.debounceAll debounceMs (polls.map fun x => (x.1, t0 + BitVec.ofNat 32 x.2))).st = b.st

/-- 41_buttons.md R148 (b): a level that differs at every poll from t0 on flips the state at the first poll at or after
t0 + DEBOUNCE_MS and not before, with one edge: the next poll ends it. -/
def Obligations.AHeldLevelFlipsOnce : Prop :=
  ∀ (b : Button) (debounceMs : Nat) (t0 : BitVec 32) (early : List Nat) (late : Nat) (after : BitVec 32),
    b.pend = false → 0 < debounceMs → debounceMs ≤ late → late < 2 ^ 32 → (∀ d ∈ early, d < debounceMs) →
    let before := b.debounceAll debounceMs ((0 :: early).map fun d => (!b.st, t0 + BitVec.ofNat 32 d))
    let flipped := before.debounce debounceMs (!b.st) (t0 + BitVec.ofNat 32 late)
    let next := flipped.debounce debounceMs (!b.st) after
    before.st = b.st ∧ before.prv = b.st ∧ flipped.st = !b.st ∧ flipped.prv = b.st ∧ flipped.pend = false ∧
      next.st = !b.st ∧ next.prv = !b.st

/-! ## Serial engine: receive and checksums -/

/-- 42_serial.md R160, R161, R163: what RX_BYTE does with each byte, in Idle and while Accumulating. -/
def Obligations.RxByteFollowsTheFramer : Prop :=
  ∀ (s : State) (b : BitVec 8), s.Inv →
    let buf := s.rxBuf.set s.rxLen.toNat b
    let len := s.rxLen.toNat + 1
    if 0xF8 ≤ b.toNat then exec (.rxByte b) s = .next (s.answer 0 (BitVec.ofNat 32 (0x100 + b.toNat)))
    else if s.rxInprog = false then
      exec (.rxByte b) s = .next (if b = 0xF0#8
        then ({ s with rxBuf := s.rxBuf.set 0 0xF0#8, rxLen := 1, rxInprog := true } : State).answer 0 0
        else s.answer 0 0)
    else if b = 0xF7#8 then
      if validate buf len = true then
        ∃ t, exec (.rxByte b) s = .next t ∧
          t = { s with rstat := 0, rdata := BitVec.ofNat 32 (0x200 + len), rxInprog := false, rxLen := 0, rxBuf := buf,
                        msgValid := true, msgLen := BitVec.ofNat 8 len, msg := t.msg } ∧
          t.msgLen.toNat = len ∧ t.msg.length = s.cfg.sysexMax ∧ ∀ k, k < len → t.msgByte k = buf.getD k 0
      else exec (.rxByte b) s =
        .next (({ s with rxInprog := false, rxLen := 0, rxBuf := buf } : State).answer 0 0)
    else if len = s.cfg.sysexMax then
      exec (.rxByte b) s = .next (({ s with rxInprog := false, rxLen := 0, rxBuf := buf } : State).answer 0 0)
    else
      exec (.rxByte b) s = .next (({ s with rxLen := BitVec.ofNat 8 len, rxBuf := buf } : State).answer 0 0)

/-- 42_serial.md R164: a message of L bytes validates exactly when L is at least 7 and the bytes from offset 4 through
the checksum at L-2 sum to 0 modulo 128. -/
def Obligations.ValidationSumsFromTheCommandId : Prop :=
  ∀ (B : List (BitVec 8)) (L : Nat), L ≤ B.length →
    (validate B L = true ↔
      7 ≤ L ∧ ((List.range (L - 5)).map fun k => (B.getD (4 + k) 0).toNat).sum % 128 = 0)

/-- 42_serial.md R162: the checksum functions, and that a generated checksum always verifies. -/
def Obligations.ChecksumFunctionsAgree : Prop :=
  ∀ (B : List (BitVec 8)) (c : BitVec 8),
    (csGen B).toNat = (128 - (B.map BitVec.toNat).sum % 128) % 128 ∧
    (csOk B c = true ↔ ((B.map BitVec.toNat).sum + c.toNat) % 128 = 0) ∧
    csOk B (dataByte (csGen B)) = true ∧ ((B.map BitVec.toNat).sum % 128 = 0 → csGen B = 0) ∧
    ∀ (M : List (BitVec 8)), 7 ≤ M.length → (checksumRange M M.length).length = M.length - 6 ∧
      ∀ k, k < M.length - 6 → (checksumRange M M.length).getD k 0 = M.getD (4 + k) 0

/-- 42_serial.md R166, R167: RX_RD returns a byte of the latched message; RX_DT1 returns its address and first value
byte, most significant first, or MALFORMED. -/
def Obligations.LatchedMessageIsReadByteAndDataSet : Prop :=
  ∀ (s : State) (k : BitVec 10),
    exec (.rxRd k) s = .next (if s.msgValid = false ∨ s.msgLen.toNat ≤ k.toNat then s.answer 8 0
      else s.answer 0 (BitVec.ofNat 32 (s.msg.getD k.toNat 0).toNat)) ∧
    exec .rxDt1 s = .next (if s.msgValid = false ∨ s.msgLen.toNat < 11 ∨ s.msg.getD 4 0 ≠ 0x12#8 then s.answer 6 0
      else s.answer 0 (BitVec.ofNat 32 (16777216 * (s.msg.getD 5 0).toNat + 65536 * (s.msg.getD 6 0).toNat +
        256 * (s.msg.getD 7 0).toNat + (s.msg.getD 8 0).toNat)))

/-- 42_serial.md R171, R172, R173, R174: the four checksum commands. -/
def Obligations.ChecksumCommandsUseTheAccumulator : Prop :=
  ∀ (s : State) (b : BitVec 8),
    exec .csClr s = .next (({ s with csum := 0 } : State).answer 0 0) ∧
    exec (.csAdd b) s = .next (({ s with csum := BitVec.ofNat 7 ((s.csum.toNat + b.toNat) % 128) } : State).answer 0
      (BitVec.ofNat 32 ((s.csum.toNat + b.toNat) % 128))) ∧
    exec .csGen s = .next (s.answer 0 (BitVec.ofNat 32 ((128 - s.csum.toNat) % 128))) ∧
    exec (.csVer b) s = .next (if (s.csum.toNat + b.toNat) % 128 ≠ 0 then s.answer 5 0 else s.answer 0 1)

/-- 42_serial.md R170 to R174 with R162: clearing and adding the bytes of any sequence leaves its sum modulo 128, from
which CS_GEN gives `CsGen` and CS_VER decides `CsOk`. -/
def Obligations.ChecksumCommandsComputeTheChecksumOfASequence : Prop :=
  ∀ (s : State) (B : List (BitVec 8)), ∃ t, execAll (.csClr :: B.map .csAdd) s = .next t ∧
    t.csum.toNat = byteSum B % 128 ∧ exec .csGen t = .next (t.answer 0 ((csGen B).setWidth 32)) ∧
    ∀ c, exec (.csVer c) t = .next (if csOk B c = true then t.answer 0 1 else t.answer 5 0)

/-- 42_serial.md R175 (a) for DT1: the message TX_DT1 builds, fed back byte by byte to an idle framer with
SYSEX_MAX at least 11, is accepted and latched. -/
def Obligations.EmittedDataSetIsAcceptedBack : Prop :=
  ∀ (s : State) (b : BitVec 8), s.Inv → s.rxInprog = false → 11 ≤ s.cfg.sysexMax →
    ∃ t, execAll ((s.dt1Bytes b).map .rxByte) s = .next t ∧ t.rstat = 0 ∧ t.rdata = 0x20B ∧ t.msgValid = true ∧
      t.msgLen = 11 ∧ t.msg.take 11 = s.dt1Bytes b ∧ t.rxInprog = false ∧
      exec .rxDt1 t = .next (t.answer 0 (BitVec.ofNat 32 (16777216 * s.txa.h.toNat + 65536 * s.txa.m.toNat +
        256 * s.txa.l.toNat + b.toNat % 128)))

/-- 42_serial.md R175 (a) for RQ1: the message TX_RQ1 builds, fed back to an idle framer with SYSEX_MAX at least 13, is
accepted and latched, and RX_DT1 refuses it as no Data-Set. -/
def Obligations.EmittedDataRequestIsAcceptedBack : Prop :=
  ∀ s : State, s.Inv → s.rxInprog = false → 13 ≤ s.cfg.sysexMax →
    ∃ t, execAll (s.rq1Bytes.map .rxByte) s = .next t ∧ t.rstat = 0 ∧ t.rdata = 0x20D ∧ t.msgValid = true ∧
      t.msgLen = 13 ∧ t.msg.take 13 = s.rq1Bytes ∧ t.rxInprog = false ∧ exec .rxDt1 t = .next (t.answer 6 0)

/-- 42_serial.md R175 (b), (c), for data bytes in 0x00..0x7F as 90_conflicts.md C11 reads it: changing one data byte of
the checksum range makes a valid message invalid; changing a byte before the range, or bit 7 of one in it, does not. -/
def Obligations.OneChangedDataByteIsDetected : Prop :=
  ∀ (B : List (BitVec 8)) (L k : Nat) (v : BitVec 8), L ≤ B.length → validate B L = true →
    (4 ≤ k → k ≤ L - 3 → (B.getD k 0).toNat < 128 → v.toNat < 128 → v ≠ B.getD k 0 →
      validate (B.set k v) L = false) ∧
    (k < 4 → validate (B.set k v) L = true) ∧
    (4 ≤ k → k ≤ L - 3 → validate (B.set k (B.getD k 0 ^^^ 0x80#8)) L = true)

/-! ## Serial engine: transmit -/

/-- 42_serial.md R180, R181: TX_CC checks the slot, samples the time once, and either is suppressed inside RATE_MS of the
slot's last send, with no other effect, or emits the three Control Change bytes and marks the slot. The list of times and
the list of emitted bytes are the model's form of the two ports (log entries 6 and 7); that a
refused command takes no time sample is read from 10_state.md R25 (log entry 18). -/
def Obligations.TxCcSendsOrIsSuppressed : Prop :=
  ∀ (s : State) (p : BitVec 10) (a b : BitVec 8), 1 ≤ s.channel.toNat → s.channel.toNat ≤ 16 →
    (s.cfg.paramCount ≤ p.toNat → exec (.txCc p a b) s = .next (s.answer 2 0)) ∧
    (p.toNat < s.cfg.paramCount →
      let x := s.slot p.toNat
      let now := s.ports.now
      exec (.txCc p a b) s = .next (
        if x.rlValid = true ∧ (now - x.rlLast).toNat < s.cfg.rateMs then (s.setPorts s.ports.afterNow).answer 0 0
        else ((s.setPorts (s.ports.afterNow.emit [BitVec.ofNat 8 (0xB0 + (s.channel.toNat - 1)),
          BitVec.ofNat 8 (a.toNat % 128), BitVec.ofNat 8 (b.toNat % 128)])).setSlot p.toNat
            { x with rlValid := true, rlLast := now }).answer 0 1))

/-- 42_serial.md R182, R185, R186: TX_PC emits two bytes, never rate-limited; TX_SETA and TX_SETS load the staging
registers. -/
def Obligations.TxPcEmitsAndTheStagingRegistersLoad : Prop :=
  ∀ (s : State) (b : BitVec 8) (h m l : BitVec 7),
    (1 ≤ s.channel.toNat → s.channel.toNat ≤ 16 →
      exec (.txPc b) s = .next ((s.setPorts (s.ports.emit [BitVec.ofNat 8 (0xC0 + (s.channel.toNat - 1)),
        BitVec.ofNat 8 (b.toNat % 128)])).answer 0 1)) ∧
    exec (.txSeta h m l) s = .next (({ s with txa := ⟨h, m, l⟩ } : State).answer 0 0) ∧
    exec (.txSets h m l) s = .next (({ s with txs := ⟨h, m, l⟩ } : State).answer 0 0)

/-- 42_serial.md R180, R183: TX_DT1 checks the slot, samples the time once, and either is suppressed or emits the 11 bytes of
a Data-Set, with the address staged in TXA and the checksum over command id, address and masked value, and marks the slot.
The list of times and the list of emitted bytes are the model's form of the two ports (log entries 6 and 7); that a
refused command takes no time sample is read from 10_state.md R25 (log entry 18). -/
def Obligations.TxDt1SendsOrIsSuppressed : Prop :=
  ∀ (s : State) (p : BitVec 10) (b : BitVec 8), 1 ≤ s.channel.toNat → s.channel.toNat ≤ 16 →
    (s.cfg.paramCount ≤ p.toNat → exec (.txDt1 p b) s = .next (s.answer 2 0)) ∧
    (p.toNat < s.cfg.paramCount →
      let x := s.slot p.toNat
      let now := s.ports.now
      let sum := 0x12 + s.txa.h.toNat + s.txa.m.toNat + s.txa.l.toNat + b.toNat % 128
      exec (.txDt1 p b) s = .next (
        if x.rlValid = true ∧ (now - x.rlLast).toNat < s.cfg.rateMs then (s.setPorts s.ports.afterNow).answer 0 0
        else ((s.setPorts (s.ports.afterNow.emit ([0xF0, s.mfrId.toNat, s.channel.toNat - 1, s.modelId.toNat, 0x12,
          s.txa.h.toNat, s.txa.m.toNat, s.txa.l.toNat, b.toNat % 128, (128 - sum % 128) % 128, 0xF7].map
            (BitVec.ofNat 8)))).setSlot p.toNat { x with rlValid := true, rlLast := now }).answer 0 1))

/-- 42_serial.md R184: TX_RQ1 emits the 13 bytes of a Data-Request, never rate-limited. -/
def Obligations.TxRq1EmitsTheDataRequest : Prop :=
  ∀ s : State, 1 ≤ s.channel.toNat → s.channel.toNat ≤ 16 →
    let sum := 0x11 + s.txa.h.toNat + s.txa.m.toNat + s.txa.l.toNat + s.txs.h.toNat + s.txs.m.toNat + s.txs.l.toNat
    exec .txRq1 s = .next ((s.setPorts (s.ports.emit ([0xF0, s.mfrId.toNat, s.channel.toNat - 1, s.modelId.toNat, 0x11,
      s.txa.h.toNat, s.txa.m.toNat, s.txa.l.toNat, s.txs.h.toNat, s.txs.m.toNat, s.txs.l.toNat,
      (128 - sum % 128) % 128, 0xF7].map (BitVec.ofNat 8)))).answer 0 1)

/-- 42_serial.md R180, R181, R183: after a TX_CC that was sent at t1, a TX_CC or TX_DT1 on the same slot within RATE_MS
emits nothing and leaves the window where it was; at RATE_MS or later it is sent. The list of times is the model's form of
the time input (log entry 6). -/
def Obligations.SendsOnOneSlotShareItsWindow : Prop :=
  ∀ (s t : State) (p : BitVec 10) (a b : BitVec 8) (i : Instr), s.Inv → p.toNat < s.cfg.paramCount →
    exec (.txCc p a b) s = .next t → t.rdata = 1 →
    ((∃ c d, i = .txCc p c d) ∨ (∃ c, i = .txDt1 p c)) →
    ∃ u, exec i t = .next u ∧ u.rstat = 0 ∧
      ((t.ports.now - s.ports.now).toNat < s.cfg.rateMs →
        u.rdata = 0 ∧ u.ports.tx = t.ports.tx ∧ u.slots = t.slots) ∧
      (s.cfg.rateMs ≤ (t.ports.now - s.ports.now).toNat →
        u.rdata = 1 ∧ t.ports.tx.length < u.ports.tx.length ∧ (u.slot p.toNat).rlLast = t.ports.now)

/-! ## Parameter-change detector -/

/-- 43_param.md R220, R221: PD_UPDATE's checks, filter step, rounding, deadband commit and result, on integers. -/
def Obligations.PdUpdateFiltersAndCommits : Prop :=
  ∀ (s : State) (p : BitVec 10) (imm : BitVec 16), s.Inv →
    (s.cfg.paramCount ≤ p.toNat → exec (.pdUpdate p imm) s = .next (s.answer 2 0)) ∧
    (p.toNat < s.cfg.paramCount →
      let e := s.cfg.pd p.toNat
      let x := s.slot p.toNat
      let acc := x.pdAcc.toInt + e.alpha * (imm.toInt * 65536 - x.pdAcc.toInt) / 65536
      let r := (acc + 32768) / 65536
      (imm.toInt < e.min ∨ e.max < imm.toInt → exec (.pdUpdate p imm) s = .next (s.answer 3 0)) ∧
      (e.min ≤ imm.toInt → imm.toInt ≤ e.max →
        ∃ y d, exec (.pdUpdate p imm) s = .next ((s.setSlot p.toNat y).answer 0 d) ∧
          y.rlValid = x.rlValid ∧ y.rlLast = x.rlLast ∧ y.pdAcc.toInt = acc ∧
          (if s.cfg.pdDeadband < (r - x.pdVal.toInt).natAbs
           then y.pdPrev = x.pdVal ∧ y.pdVal.toInt = r ∧ d = BitVec.ofNat 32 (65536 + y.pdVal.toNat)
           else y.pdPrev = x.pdPrev ∧ y.pdVal = x.pdVal ∧ d = BitVec.ofNat 32 x.pdVal.toNat)))

/-- 43_param.md R222, R223: the committed and the previous value as 16-bit patterns. -/
def Obligations.PdGetAndPdPrevReturnTheSlot : Prop :=
  ∀ (s : State) (p : BitVec 10),
    (s.cfg.paramCount ≤ p.toNat → exec (.pdGet p) s = .next (s.answer 2 0) ∧
      exec (.pdPrev p) s = .next (s.answer 2 0)) ∧
    (p.toNat < s.cfg.paramCount →
      exec (.pdGet p) s = .next (s.answer 0 (BitVec.ofNat 32 (s.slot p.toNat).pdVal.toNat)) ∧
      exec (.pdPrev p) s = .next (s.answer 0 (BitVec.ofNat 32 (s.slot p.toNat).pdPrev.toNat)))

/-- 43_param.md R224 (a), (b): the accumulator stays in the slot's range, lies between its old value and the input, and
rounds into the range. -/
def Obligations.PdFilterStaysInRangeAndNeverOvershoots : Prop :=
  ∀ (e : PdEntry) (x : Slot) (input : Int), e.Legal → e.min ≤ input → input ≤ e.max →
    e.min * 65536 ≤ x.pdAcc.toInt → x.pdAcc.toInt ≤ e.max * 65536 →
    let y := x.filter e input
    e.min * 65536 ≤ y.pdAcc.toInt ∧ y.pdAcc.toInt ≤ e.max * 65536 ∧
    (x.pdAcc.toInt ≤ input * 65536 → x.pdAcc.toInt ≤ y.pdAcc.toInt ∧ y.pdAcc.toInt ≤ input * 65536) ∧
    (input * 65536 ≤ x.pdAcc.toInt → input * 65536 ≤ y.pdAcc.toInt ∧ y.pdAcc.toInt ≤ x.pdAcc.toInt) ∧
    e.min ≤ y.rounded ∧ y.rounded ≤ e.max

/-- 43_param.md R224 (c): under a constant input with alpha > 0 the filter reaches the input exactly from above, and from
below settles at a distance below 65536 / alpha, which rounds to the input when alpha is at least 2. -/
def Obligations.PdFilterSettlesUnderAConstantInput : Prop :=
  ∀ (e : PdEntry) (x : Slot) (input : Int), e.Legal → 0 < e.alpha → e.min ≤ input → input ≤ e.max →
    e.min * 65536 ≤ x.pdAcc.toInt → x.pdAcc.toInt ≤ e.max * 65536 →
    (input * 65536 ≤ x.pdAcc.toInt → ∃ k, (x.settle e input k).pdAcc.toInt = input * 65536) ∧
    (x.pdAcc.toInt < input * 65536 → ∃ k, ∀ j, k ≤ j →
      (x.settle e input j).pdAcc.toInt ≤ input * 65536 ∧
      (input * 65536 - (x.settle e input j).pdAcc.toInt) * e.alpha < 65536 ∧
      (2 ≤ e.alpha → (x.settle e input j).rounded = input))

/-! ## Rules of the whole machine -/

/-- 60_exceptions.md R250, R254, R255: every command, with every operand, in every state, completes, with a status code of
the table that is not BUFFER_OVERFLOW. -/
def Obligations.EveryCommandCompletesWithAStatusOfTheTable : Prop :=
  ∀ (i : Instr) (s : State), ∃ t, exec i s = .next t ∧ t.rstat.toNat ≤ 8 ∧ t.rstat.toNat ≠ 4

/-- 60_exceptions.md R251: a command that ends in an error sets RSTAT to its code and RDATA to 0 and changes nothing else:
no state field, no transmitted byte, no ADC transfer. That no time sample is taken either is the model's deduction from
90_conflicts.md C9, 10_state.md R25 and 42_serial.md R181 and R183 (log entry 18), where R251 says that it may have been. -/
def Obligations.ErrorsChangeNothingElse : Prop :=
  ∀ (i : Instr) (s t : State), exec i s = .next t → t.rstat ≠ 0 → t = s.answer t.rstat 0

/-- 60_exceptions.md R253, 20_memory.md R60: a command whose index is outside its index space is refused for that before
anything else: INVALID_PARAM for a slot, BAD_INDEX for every other space. That a refused TX_CC or TX_DT1 takes no
time sample is read from 10_state.md R25 and 90_conflicts.md C9 (log entry 18). -/
def Obligations.BadIndicesAreRefusedFirst : Prop :=
  ∀ (i : Instr) (s : State) (space : IndexSpace) (k : Nat), i.index = some (space, k) →
    space.size s.cfg (if s.msgValid then s.msgLen.toNat else 0) ≤ k →
    exec i s = .next (s.answer (if space = .slot then 2 else 8) 0)

/-- 20_memory.md R64: the pure reads change nothing but RSTAT and RDATA, and repeating one gives the same result. -/
def Obligations.PureReadsAreIdempotent : Prop :=
  ∀ (i : Instr) (s t : State),
    i.mnemonic ∈ [.nop, .anGet, .anCalrd, .norm, .hyst, .btState, .btPressed, .btReleased, .rxRd, .rxDt1, .csGen, .csVer,
      .pdGet, .pdPrev, .crRd] → exec i s = .next t →
    t = s.answer t.rstat t.rdata ∧ exec i t = .next t

/-- 10_state.md R31, R32, R40; 41_buttons.md R140; 42_serial.md R170; 20_memory.md R70: which command may write which field,
over all commands. -/
def Obligations.EachFieldIsWrittenByItsCommandsOnly : Prop :=
  ∀ (i : Instr) (s t : State), exec i s = .next t →
    (i.mnemonic ≠ .anRead → ∀ ch, (t.chan ch).anVal = (s.chan ch).anVal) ∧
    (i.mnemonic ≠ .anChanged → ∀ ch, (s.chan ch).anChg = true → (t.chan ch).anChg = true) ∧
    (i.mnemonic ≠ .anRead → ∀ ch, (t.chan ch).anChg = true → (s.chan ch).anChg = true) ∧
    (i.mnemonic ≠ .anCal → ∀ ch, (t.chan ch).calMin = (s.chan ch).calMin ∧ (t.chan ch).calMax = (s.chan ch).calMax) ∧
    (i.mnemonic ∉ [.anRead, .smUpdate, .smReset, .anCal] → ∀ ch, (t.chan ch).smBuf = (s.chan ch).smBuf ∧
      (t.chan ch).smSum = (s.chan ch).smSum ∧ (t.chan ch).smIdx = (s.chan ch).smIdx) ∧
    (i.mnemonic ≠ .btPoll → t.buttons = s.buttons) ∧
    (i.mnemonic ≠ .rxByte → t.rxInprog = s.rxInprog ∧ t.rxLen = s.rxLen ∧ t.rxBuf = s.rxBuf ∧
      t.msgValid = s.msgValid ∧ t.msgLen = s.msgLen ∧ t.msg = s.msg) ∧
    (s.msgValid = true → t.msgValid = true) ∧
    (i.mnemonic ∉ [.csClr, .csAdd] → t.csum = s.csum) ∧
    (i.mnemonic ≠ .txSeta → t.txa = s.txa) ∧ (i.mnemonic ≠ .txSets → t.txs = s.txs) ∧
    (i.mnemonic ∉ [.txCc, .txDt1] → ∀ p, (t.slot p).rlValid = (s.slot p).rlValid ∧
      (t.slot p).rlLast = (s.slot p).rlLast) ∧
    (i.mnemonic ≠ .pdUpdate → ∀ p, (t.slot p).pdAcc = (s.slot p).pdAcc ∧ (t.slot p).pdVal = (s.slot p).pdVal ∧
      (t.slot p).pdPrev = (s.slot p).pdPrev) ∧
    (i.mnemonic ≠ .crWr → t.channel = s.channel ∧ t.mfrId = s.mfrId ∧ t.modelId = s.modelId ∧ t.hystT = s.hystT) ∧
    t.cfg = s.cfg

/-- 20_memory.md R60, R64: a command that names a channel or a slot leaves every other channel and slot as it was, and
AN_CAL and BT_POLL aside no command touches more than one. -/
def Obligations.IndexedCommandsTouchOneElement : Prop :=
  ∀ (i : Instr) (s t : State), exec i s = .next t →
    (i ≠ .anCal → ∀ ch, i.index ≠ some (.channel, ch) → t.chan ch = s.chan ch) ∧
    (∀ p, i.index ≠ some (.slot, p) → t.slot p = s.slot p) ∧
    t.chans.length = s.chans.length ∧ t.slots.length = s.slots.length ∧ t.buttons.length = s.buttons.length

/-- 10_state.md R23, R24, R25, R26; 20_memory.md R67, R68: which commands use which port, how often, and that the transmit
stream only grows, by 2 to 13 bytes of one message at a time (60_exceptions.md R254). The lists and counts are the model's
form of the ports (log entries 3 to 8), and that an error leaves the time input alone is its deduction (log entry 18). -/
def Obligations.PortsAreUsedByTheirCommandsOnly : Prop :=
  ∀ (i : Instr) (s t : State), exec i s = .next t →
    (i.mnemonic ∉ [.anRead, .anCal] → t.ports.adcLog = s.ports.adcLog ∧ t.ports.adcIn = s.ports.adcIn) ∧
    (i.mnemonic = .anRead → t.rstat = 0 → ∃ r, t.ports.adcLog = s.ports.adcLog ++ [r]) ∧
    (i.mnemonic ≠ .btPoll → t.ports.pinsCount = s.ports.pinsCount ∧ t.ports.pinsIn = s.ports.pinsIn) ∧
    t.ports.pinsCount ≤ s.ports.pinsCount + 1 ∧
    (i.mnemonic ∉ [.btPoll, .txCc, .txDt1] → t.ports.nowCount = s.ports.nowCount ∧ t.ports.nowIn = s.ports.nowIn) ∧
    t.ports.nowCount ≤ s.ports.nowCount + 1 ∧ (t.rstat ≠ 0 → t.ports = s.ports) ∧
    t.ports.cmdIn = s.ports.cmdIn ∧
    (∃ bytes, t.ports.tx = s.ports.tx ++ bytes ∧ (bytes = [] ∨ (2 ≤ bytes.length ∧ bytes.length ≤ 13)) ∧
      (i.mnemonic ∉ [.txCc, .txPc, .txDt1, .txRq1] → bytes = []))

/-- 10_state.md R20: every command writes RSTAT and RDATA, no command reads them, and both are 0 after reset. -/
def Obligations.ResultRegistersAreWrittenAndNeverRead : Prop :=
  (∀ (i : Instr) (s : State) (x : BitVec 4) (d : BitVec 32), exec i (s.answer x d) = exec i s) ∧
  ∀ c : Cfg, (State.resetOf c).rstat = 0 ∧ (State.resetOf c).rdata = 0

/-- 10_state.md R30, R34, R35, R43; 42_serial.md R160, R164; 43_param.md R224; 70_reset_and_hazards.md R280: the invariant
is kept by every step, of any kind, from any state that has it, and no step changes the configuration. The clause on the
order of CAL_MIN and CAL_MAX is the model's inference from 10_state.md R31 and 40_analog.md R116 (log entry 14). -/
def Obligations.EveryStepKeepsTheInvariant : Prop :=
  ∀ s t : State, s.Inv → step s = .next t → t.Inv ∧ t.cfg = s.cfg

/-- 10_state.md R47: the reset state of every legal configuration has the invariant. -/
def Obligations.ResetHasTheInvariant : Prop :=
  ∀ c : Cfg, c.Legal → (State.resetOf c).Inv

/-- 10_state.md R34, R41: the bytes of RX_BUF at and above RX_LEN are not observable: two states that differ in nothing
else answer every step alike and still differ in nothing else. -/
def Obligations.RxBufTailIsUnobservable : Prop :=
  ∀ s t u : State, s.Inv → s.SameButRxTail u → step s = .next t →
    ∃ v, step u = .next v ∧ t.SameButRxTail v
end

