-- ==== Sys2Proof/Laws/State.lean ====
section
/-! SUPPORT. One lemma per field per update of the state and its records, so that no later proof unfolds an update. -/

namespace Sys2Proof.Machine

section StateUpdates

variable (s : State)

@[simp] theorem State.respond_eq_answer (st : Status) (d : BitVec 32) : s.respond st d = s.answer st.code d := rfl
@[simp] theorem State.ok_eq_answer (d : BitVec 32) : s.ok d = s.answer 0 d := rfl
@[simp] theorem State.raise_eq_answer (e : Status) : s.raise e = s.answer e.code 0 := rfl

@[simp] theorem State.answer_cfg (x : BitVec 4) (d : BitVec 32) : (s.answer x d).cfg = s.cfg := rfl
@[simp] theorem State.answer_rstat (x : BitVec 4) (d : BitVec 32) : (s.answer x d).rstat = x := rfl
@[simp] theorem State.answer_rdata (x : BitVec 4) (d : BitVec 32) : (s.answer x d).rdata = d := rfl
@[simp] theorem State.answer_chans (x : BitVec 4) (d : BitVec 32) : (s.answer x d).chans = s.chans := rfl
@[simp] theorem State.answer_buttons (x : BitVec 4) (d : BitVec 32) : (s.answer x d).buttons = s.buttons := rfl
@[simp] theorem State.answer_rxInprog (x : BitVec 4) (d : BitVec 32) : (s.answer x d).rxInprog = s.rxInprog := rfl
@[simp] theorem State.answer_rxLen (x : BitVec 4) (d : BitVec 32) : (s.answer x d).rxLen = s.rxLen := rfl
@[simp] theorem State.answer_rxBuf (x : BitVec 4) (d : BitVec 32) : (s.answer x d).rxBuf = s.rxBuf := rfl
@[simp] theorem State.answer_msgValid (x : BitVec 4) (d : BitVec 32) : (s.answer x d).msgValid = s.msgValid := rfl
@[simp] theorem State.answer_msgLen (x : BitVec 4) (d : BitVec 32) : (s.answer x d).msgLen = s.msgLen := rfl
@[simp] theorem State.answer_msg (x : BitVec 4) (d : BitVec 32) : (s.answer x d).msg = s.msg := rfl
@[simp] theorem State.answer_csum (x : BitVec 4) (d : BitVec 32) : (s.answer x d).csum = s.csum := rfl
@[simp] theorem State.answer_txa (x : BitVec 4) (d : BitVec 32) : (s.answer x d).txa = s.txa := rfl
@[simp] theorem State.answer_txs (x : BitVec 4) (d : BitVec 32) : (s.answer x d).txs = s.txs := rfl
@[simp] theorem State.answer_slots (x : BitVec 4) (d : BitVec 32) : (s.answer x d).slots = s.slots := rfl
@[simp] theorem State.answer_channel (x : BitVec 4) (d : BitVec 32) : (s.answer x d).channel = s.channel := rfl
@[simp] theorem State.answer_mfrId (x : BitVec 4) (d : BitVec 32) : (s.answer x d).mfrId = s.mfrId := rfl
@[simp] theorem State.answer_modelId (x : BitVec 4) (d : BitVec 32) : (s.answer x d).modelId = s.modelId := rfl
@[simp] theorem State.answer_hystT (x : BitVec 4) (d : BitVec 32) : (s.answer x d).hystT = s.hystT := rfl
@[simp] theorem State.answer_ports (x : BitVec 4) (d : BitVec 32) : (s.answer x d).ports = s.ports := rfl

@[simp] theorem State.setChan_cfg (i : Nat) (c : Channel) : (s.setChan i c).cfg = s.cfg := rfl
@[simp] theorem State.setChan_rstat (i : Nat) (c : Channel) : (s.setChan i c).rstat = s.rstat := rfl
@[simp] theorem State.setChan_rdata (i : Nat) (c : Channel) : (s.setChan i c).rdata = s.rdata := rfl
@[simp] theorem State.setChan_chans (i : Nat) (c : Channel) : (s.setChan i c).chans = s.chans.set i c := rfl
@[simp] theorem State.setChan_buttons (i : Nat) (c : Channel) : (s.setChan i c).buttons = s.buttons := rfl
@[simp] theorem State.setChan_rxInprog (i : Nat) (c : Channel) : (s.setChan i c).rxInprog = s.rxInprog := rfl
@[simp] theorem State.setChan_rxLen (i : Nat) (c : Channel) : (s.setChan i c).rxLen = s.rxLen := rfl
@[simp] theorem State.setChan_rxBuf (i : Nat) (c : Channel) : (s.setChan i c).rxBuf = s.rxBuf := rfl
@[simp] theorem State.setChan_msgValid (i : Nat) (c : Channel) : (s.setChan i c).msgValid = s.msgValid := rfl
@[simp] theorem State.setChan_msgLen (i : Nat) (c : Channel) : (s.setChan i c).msgLen = s.msgLen := rfl
@[simp] theorem State.setChan_msg (i : Nat) (c : Channel) : (s.setChan i c).msg = s.msg := rfl
@[simp] theorem State.setChan_csum (i : Nat) (c : Channel) : (s.setChan i c).csum = s.csum := rfl
@[simp] theorem State.setChan_txa (i : Nat) (c : Channel) : (s.setChan i c).txa = s.txa := rfl
@[simp] theorem State.setChan_txs (i : Nat) (c : Channel) : (s.setChan i c).txs = s.txs := rfl
@[simp] theorem State.setChan_slots (i : Nat) (c : Channel) : (s.setChan i c).slots = s.slots := rfl
@[simp] theorem State.setChan_channel (i : Nat) (c : Channel) : (s.setChan i c).channel = s.channel := rfl
@[simp] theorem State.setChan_mfrId (i : Nat) (c : Channel) : (s.setChan i c).mfrId = s.mfrId := rfl
@[simp] theorem State.setChan_modelId (i : Nat) (c : Channel) : (s.setChan i c).modelId = s.modelId := rfl
@[simp] theorem State.setChan_hystT (i : Nat) (c : Channel) : (s.setChan i c).hystT = s.hystT := rfl
@[simp] theorem State.setChan_ports (i : Nat) (c : Channel) : (s.setChan i c).ports = s.ports := rfl

@[simp] theorem State.setChans_cfg (cs : List Channel) : (s.setChans cs).cfg = s.cfg := rfl
@[simp] theorem State.setChans_rstat (cs : List Channel) : (s.setChans cs).rstat = s.rstat := rfl
@[simp] theorem State.setChans_rdata (cs : List Channel) : (s.setChans cs).rdata = s.rdata := rfl
@[simp] theorem State.setChans_chans (cs : List Channel) : (s.setChans cs).chans = cs := rfl
@[simp] theorem State.setChans_buttons (cs : List Channel) : (s.setChans cs).buttons = s.buttons := rfl
@[simp] theorem State.setChans_rxInprog (cs : List Channel) : (s.setChans cs).rxInprog = s.rxInprog := rfl
@[simp] theorem State.setChans_rxLen (cs : List Channel) : (s.setChans cs).rxLen = s.rxLen := rfl
@[simp] theorem State.setChans_rxBuf (cs : List Channel) : (s.setChans cs).rxBuf = s.rxBuf := rfl
@[simp] theorem State.setChans_msgValid (cs : List Channel) : (s.setChans cs).msgValid = s.msgValid := rfl
@[simp] theorem State.setChans_msgLen (cs : List Channel) : (s.setChans cs).msgLen = s.msgLen := rfl
@[simp] theorem State.setChans_msg (cs : List Channel) : (s.setChans cs).msg = s.msg := rfl
@[simp] theorem State.setChans_csum (cs : List Channel) : (s.setChans cs).csum = s.csum := rfl
@[simp] theorem State.setChans_txa (cs : List Channel) : (s.setChans cs).txa = s.txa := rfl
@[simp] theorem State.setChans_txs (cs : List Channel) : (s.setChans cs).txs = s.txs := rfl
@[simp] theorem State.setChans_slots (cs : List Channel) : (s.setChans cs).slots = s.slots := rfl
@[simp] theorem State.setChans_channel (cs : List Channel) : (s.setChans cs).channel = s.channel := rfl
@[simp] theorem State.setChans_mfrId (cs : List Channel) : (s.setChans cs).mfrId = s.mfrId := rfl
@[simp] theorem State.setChans_modelId (cs : List Channel) : (s.setChans cs).modelId = s.modelId := rfl
@[simp] theorem State.setChans_hystT (cs : List Channel) : (s.setChans cs).hystT = s.hystT := rfl
@[simp] theorem State.setChans_ports (cs : List Channel) : (s.setChans cs).ports = s.ports := rfl

@[simp] theorem State.setButtons_cfg (bs : List Button) : (s.setButtons bs).cfg = s.cfg := rfl
@[simp] theorem State.setButtons_rstat (bs : List Button) : (s.setButtons bs).rstat = s.rstat := rfl
@[simp] theorem State.setButtons_rdata (bs : List Button) : (s.setButtons bs).rdata = s.rdata := rfl
@[simp] theorem State.setButtons_chans (bs : List Button) : (s.setButtons bs).chans = s.chans := rfl
@[simp] theorem State.setButtons_buttons (bs : List Button) : (s.setButtons bs).buttons = bs := rfl
@[simp] theorem State.setButtons_rxInprog (bs : List Button) : (s.setButtons bs).rxInprog = s.rxInprog := rfl
@[simp] theorem State.setButtons_rxLen (bs : List Button) : (s.setButtons bs).rxLen = s.rxLen := rfl
@[simp] theorem State.setButtons_rxBuf (bs : List Button) : (s.setButtons bs).rxBuf = s.rxBuf := rfl
@[simp] theorem State.setButtons_msgValid (bs : List Button) : (s.setButtons bs).msgValid = s.msgValid := rfl
@[simp] theorem State.setButtons_msgLen (bs : List Button) : (s.setButtons bs).msgLen = s.msgLen := rfl
@[simp] theorem State.setButtons_msg (bs : List Button) : (s.setButtons bs).msg = s.msg := rfl
@[simp] theorem State.setButtons_csum (bs : List Button) : (s.setButtons bs).csum = s.csum := rfl
@[simp] theorem State.setButtons_txa (bs : List Button) : (s.setButtons bs).txa = s.txa := rfl
@[simp] theorem State.setButtons_txs (bs : List Button) : (s.setButtons bs).txs = s.txs := rfl
@[simp] theorem State.setButtons_slots (bs : List Button) : (s.setButtons bs).slots = s.slots := rfl
@[simp] theorem State.setButtons_channel (bs : List Button) : (s.setButtons bs).channel = s.channel := rfl
@[simp] theorem State.setButtons_mfrId (bs : List Button) : (s.setButtons bs).mfrId = s.mfrId := rfl
@[simp] theorem State.setButtons_modelId (bs : List Button) : (s.setButtons bs).modelId = s.modelId := rfl
@[simp] theorem State.setButtons_hystT (bs : List Button) : (s.setButtons bs).hystT = s.hystT := rfl
@[simp] theorem State.setButtons_ports (bs : List Button) : (s.setButtons bs).ports = s.ports := rfl

@[simp] theorem State.setSlot_cfg (p : Nat) (x : Slot) : (s.setSlot p x).cfg = s.cfg := rfl
@[simp] theorem State.setSlot_rstat (p : Nat) (x : Slot) : (s.setSlot p x).rstat = s.rstat := rfl
@[simp] theorem State.setSlot_rdata (p : Nat) (x : Slot) : (s.setSlot p x).rdata = s.rdata := rfl
@[simp] theorem State.setSlot_chans (p : Nat) (x : Slot) : (s.setSlot p x).chans = s.chans := rfl
@[simp] theorem State.setSlot_buttons (p : Nat) (x : Slot) : (s.setSlot p x).buttons = s.buttons := rfl
@[simp] theorem State.setSlot_rxInprog (p : Nat) (x : Slot) : (s.setSlot p x).rxInprog = s.rxInprog := rfl
@[simp] theorem State.setSlot_rxLen (p : Nat) (x : Slot) : (s.setSlot p x).rxLen = s.rxLen := rfl
@[simp] theorem State.setSlot_rxBuf (p : Nat) (x : Slot) : (s.setSlot p x).rxBuf = s.rxBuf := rfl
@[simp] theorem State.setSlot_msgValid (p : Nat) (x : Slot) : (s.setSlot p x).msgValid = s.msgValid := rfl
@[simp] theorem State.setSlot_msgLen (p : Nat) (x : Slot) : (s.setSlot p x).msgLen = s.msgLen := rfl
@[simp] theorem State.setSlot_msg (p : Nat) (x : Slot) : (s.setSlot p x).msg = s.msg := rfl
@[simp] theorem State.setSlot_csum (p : Nat) (x : Slot) : (s.setSlot p x).csum = s.csum := rfl
@[simp] theorem State.setSlot_txa (p : Nat) (x : Slot) : (s.setSlot p x).txa = s.txa := rfl
@[simp] theorem State.setSlot_txs (p : Nat) (x : Slot) : (s.setSlot p x).txs = s.txs := rfl
@[simp] theorem State.setSlot_slots (p : Nat) (x : Slot) : (s.setSlot p x).slots = s.slots.set p x := rfl
@[simp] theorem State.setSlot_channel (p : Nat) (x : Slot) : (s.setSlot p x).channel = s.channel := rfl
@[simp] theorem State.setSlot_mfrId (p : Nat) (x : Slot) : (s.setSlot p x).mfrId = s.mfrId := rfl
@[simp] theorem State.setSlot_modelId (p : Nat) (x : Slot) : (s.setSlot p x).modelId = s.modelId := rfl
@[simp] theorem State.setSlot_hystT (p : Nat) (x : Slot) : (s.setSlot p x).hystT = s.hystT := rfl
@[simp] theorem State.setSlot_ports (p : Nat) (x : Slot) : (s.setSlot p x).ports = s.ports := rfl

@[simp] theorem State.setFramer_cfg (a : Bool) (n : BitVec 8) (b : List (BitVec 8)) : (s.setFramer a n b).cfg = s.cfg := rfl
@[simp] theorem State.setFramer_rstat (a : Bool) (n : BitVec 8) (b : List (BitVec 8)) : (s.setFramer a n b).rstat = s.rstat := rfl
@[simp] theorem State.setFramer_rdata (a : Bool) (n : BitVec 8) (b : List (BitVec 8)) : (s.setFramer a n b).rdata = s.rdata := rfl
@[simp] theorem State.setFramer_chans (a : Bool) (n : BitVec 8) (b : List (BitVec 8)) : (s.setFramer a n b).chans = s.chans := rfl
@[simp] theorem State.setFramer_buttons (a : Bool) (n : BitVec 8) (b : List (BitVec 8)) : (s.setFramer a n b).buttons = s.buttons := rfl
@[simp] theorem State.setFramer_rxInprog (a : Bool) (n : BitVec 8) (b : List (BitVec 8)) : (s.setFramer a n b).rxInprog = a := rfl
@[simp] theorem State.setFramer_rxLen (a : Bool) (n : BitVec 8) (b : List (BitVec 8)) : (s.setFramer a n b).rxLen = n := rfl
@[simp] theorem State.setFramer_rxBuf (a : Bool) (n : BitVec 8) (b : List (BitVec 8)) : (s.setFramer a n b).rxBuf = b := rfl
@[simp] theorem State.setFramer_msgValid (a : Bool) (n : BitVec 8) (b : List (BitVec 8)) : (s.setFramer a n b).msgValid = s.msgValid := rfl
@[simp] theorem State.setFramer_msgLen (a : Bool) (n : BitVec 8) (b : List (BitVec 8)) : (s.setFramer a n b).msgLen = s.msgLen := rfl
@[simp] theorem State.setFramer_msg (a : Bool) (n : BitVec 8) (b : List (BitVec 8)) : (s.setFramer a n b).msg = s.msg := rfl
@[simp] theorem State.setFramer_csum (a : Bool) (n : BitVec 8) (b : List (BitVec 8)) : (s.setFramer a n b).csum = s.csum := rfl
@[simp] theorem State.setFramer_txa (a : Bool) (n : BitVec 8) (b : List (BitVec 8)) : (s.setFramer a n b).txa = s.txa := rfl
@[simp] theorem State.setFramer_txs (a : Bool) (n : BitVec 8) (b : List (BitVec 8)) : (s.setFramer a n b).txs = s.txs := rfl
@[simp] theorem State.setFramer_slots (a : Bool) (n : BitVec 8) (b : List (BitVec 8)) : (s.setFramer a n b).slots = s.slots := rfl
@[simp] theorem State.setFramer_channel (a : Bool) (n : BitVec 8) (b : List (BitVec 8)) : (s.setFramer a n b).channel = s.channel := rfl
@[simp] theorem State.setFramer_mfrId (a : Bool) (n : BitVec 8) (b : List (BitVec 8)) : (s.setFramer a n b).mfrId = s.mfrId := rfl
@[simp] theorem State.setFramer_modelId (a : Bool) (n : BitVec 8) (b : List (BitVec 8)) : (s.setFramer a n b).modelId = s.modelId := rfl
@[simp] theorem State.setFramer_hystT (a : Bool) (n : BitVec 8) (b : List (BitVec 8)) : (s.setFramer a n b).hystT = s.hystT := rfl
@[simp] theorem State.setFramer_ports (a : Bool) (n : BitVec 8) (b : List (BitVec 8)) : (s.setFramer a n b).ports = s.ports := rfl

@[simp] theorem State.setLatch_cfg (a : Bool) (n : BitVec 8) (b : List (BitVec 8)) : (s.setLatch a n b).cfg = s.cfg := rfl
@[simp] theorem State.setLatch_rstat (a : Bool) (n : BitVec 8) (b : List (BitVec 8)) : (s.setLatch a n b).rstat = s.rstat := rfl
@[simp] theorem State.setLatch_rdata (a : Bool) (n : BitVec 8) (b : List (BitVec 8)) : (s.setLatch a n b).rdata = s.rdata := rfl
@[simp] theorem State.setLatch_chans (a : Bool) (n : BitVec 8) (b : List (BitVec 8)) : (s.setLatch a n b).chans = s.chans := rfl
@[simp] theorem State.setLatch_buttons (a : Bool) (n : BitVec 8) (b : List (BitVec 8)) : (s.setLatch a n b).buttons = s.buttons := rfl
@[simp] theorem State.setLatch_rxInprog (a : Bool) (n : BitVec 8) (b : List (BitVec 8)) : (s.setLatch a n b).rxInprog = s.rxInprog := rfl
@[simp] theorem State.setLatch_rxLen (a : Bool) (n : BitVec 8) (b : List (BitVec 8)) : (s.setLatch a n b).rxLen = s.rxLen := rfl
@[simp] theorem State.setLatch_rxBuf (a : Bool) (n : BitVec 8) (b : List (BitVec 8)) : (s.setLatch a n b).rxBuf = s.rxBuf := rfl
@[simp] theorem State.setLatch_msgValid (a : Bool) (n : BitVec 8) (b : List (BitVec 8)) : (s.setLatch a n b).msgValid = a := rfl
@[simp] theorem State.setLatch_msgLen (a : Bool) (n : BitVec 8) (b : List (BitVec 8)) : (s.setLatch a n b).msgLen = n := rfl
@[simp] theorem State.setLatch_msg (a : Bool) (n : BitVec 8) (b : List (BitVec 8)) : (s.setLatch a n b).msg = b := rfl
@[simp] theorem State.setLatch_csum (a : Bool) (n : BitVec 8) (b : List (BitVec 8)) : (s.setLatch a n b).csum = s.csum := rfl
@[simp] theorem State.setLatch_txa (a : Bool) (n : BitVec 8) (b : List (BitVec 8)) : (s.setLatch a n b).txa = s.txa := rfl
@[simp] theorem State.setLatch_txs (a : Bool) (n : BitVec 8) (b : List (BitVec 8)) : (s.setLatch a n b).txs = s.txs := rfl
@[simp] theorem State.setLatch_slots (a : Bool) (n : BitVec 8) (b : List (BitVec 8)) : (s.setLatch a n b).slots = s.slots := rfl
@[simp] theorem State.setLatch_channel (a : Bool) (n : BitVec 8) (b : List (BitVec 8)) : (s.setLatch a n b).channel = s.channel := rfl
@[simp] theorem State.setLatch_mfrId (a : Bool) (n : BitVec 8) (b : List (BitVec 8)) : (s.setLatch a n b).mfrId = s.mfrId := rfl
@[simp] theorem State.setLatch_modelId (a : Bool) (n : BitVec 8) (b : List (BitVec 8)) : (s.setLatch a n b).modelId = s.modelId := rfl
@[simp] theorem State.setLatch_hystT (a : Bool) (n : BitVec 8) (b : List (BitVec 8)) : (s.setLatch a n b).hystT = s.hystT := rfl
@[simp] theorem State.setLatch_ports (a : Bool) (n : BitVec 8) (b : List (BitVec 8)) : (s.setLatch a n b).ports = s.ports := rfl

@[simp] theorem State.setCsum_cfg (v : BitVec 7) : (s.setCsum v).cfg = s.cfg := rfl
@[simp] theorem State.setCsum_rstat (v : BitVec 7) : (s.setCsum v).rstat = s.rstat := rfl
@[simp] theorem State.setCsum_rdata (v : BitVec 7) : (s.setCsum v).rdata = s.rdata := rfl
@[simp] theorem State.setCsum_chans (v : BitVec 7) : (s.setCsum v).chans = s.chans := rfl
@[simp] theorem State.setCsum_buttons (v : BitVec 7) : (s.setCsum v).buttons = s.buttons := rfl
@[simp] theorem State.setCsum_rxInprog (v : BitVec 7) : (s.setCsum v).rxInprog = s.rxInprog := rfl
@[simp] theorem State.setCsum_rxLen (v : BitVec 7) : (s.setCsum v).rxLen = s.rxLen := rfl
@[simp] theorem State.setCsum_rxBuf (v : BitVec 7) : (s.setCsum v).rxBuf = s.rxBuf := rfl
@[simp] theorem State.setCsum_msgValid (v : BitVec 7) : (s.setCsum v).msgValid = s.msgValid := rfl
@[simp] theorem State.setCsum_msgLen (v : BitVec 7) : (s.setCsum v).msgLen = s.msgLen := rfl
@[simp] theorem State.setCsum_msg (v : BitVec 7) : (s.setCsum v).msg = s.msg := rfl
@[simp] theorem State.setCsum_csum (v : BitVec 7) : (s.setCsum v).csum = v := rfl
@[simp] theorem State.setCsum_txa (v : BitVec 7) : (s.setCsum v).txa = s.txa := rfl
@[simp] theorem State.setCsum_txs (v : BitVec 7) : (s.setCsum v).txs = s.txs := rfl
@[simp] theorem State.setCsum_slots (v : BitVec 7) : (s.setCsum v).slots = s.slots := rfl
@[simp] theorem State.setCsum_channel (v : BitVec 7) : (s.setCsum v).channel = s.channel := rfl
@[simp] theorem State.setCsum_mfrId (v : BitVec 7) : (s.setCsum v).mfrId = s.mfrId := rfl
@[simp] theorem State.setCsum_modelId (v : BitVec 7) : (s.setCsum v).modelId = s.modelId := rfl
@[simp] theorem State.setCsum_hystT (v : BitVec 7) : (s.setCsum v).hystT = s.hystT := rfl
@[simp] theorem State.setCsum_ports (v : BitVec 7) : (s.setCsum v).ports = s.ports := rfl

@[simp] theorem State.setTxa_cfg (a : Staged) : (s.setTxa a).cfg = s.cfg := rfl
@[simp] theorem State.setTxa_rstat (a : Staged) : (s.setTxa a).rstat = s.rstat := rfl
@[simp] theorem State.setTxa_rdata (a : Staged) : (s.setTxa a).rdata = s.rdata := rfl
@[simp] theorem State.setTxa_chans (a : Staged) : (s.setTxa a).chans = s.chans := rfl
@[simp] theorem State.setTxa_buttons (a : Staged) : (s.setTxa a).buttons = s.buttons := rfl
@[simp] theorem State.setTxa_rxInprog (a : Staged) : (s.setTxa a).rxInprog = s.rxInprog := rfl
@[simp] theorem State.setTxa_rxLen (a : Staged) : (s.setTxa a).rxLen = s.rxLen := rfl
@[simp] theorem State.setTxa_rxBuf (a : Staged) : (s.setTxa a).rxBuf = s.rxBuf := rfl
@[simp] theorem State.setTxa_msgValid (a : Staged) : (s.setTxa a).msgValid = s.msgValid := rfl
@[simp] theorem State.setTxa_msgLen (a : Staged) : (s.setTxa a).msgLen = s.msgLen := rfl
@[simp] theorem State.setTxa_msg (a : Staged) : (s.setTxa a).msg = s.msg := rfl
@[simp] theorem State.setTxa_csum (a : Staged) : (s.setTxa a).csum = s.csum := rfl
@[simp] theorem State.setTxa_txa (a : Staged) : (s.setTxa a).txa = a := rfl
@[simp] theorem State.setTxa_txs (a : Staged) : (s.setTxa a).txs = s.txs := rfl
@[simp] theorem State.setTxa_slots (a : Staged) : (s.setTxa a).slots = s.slots := rfl
@[simp] theorem State.setTxa_channel (a : Staged) : (s.setTxa a).channel = s.channel := rfl
@[simp] theorem State.setTxa_mfrId (a : Staged) : (s.setTxa a).mfrId = s.mfrId := rfl
@[simp] theorem State.setTxa_modelId (a : Staged) : (s.setTxa a).modelId = s.modelId := rfl
@[simp] theorem State.setTxa_hystT (a : Staged) : (s.setTxa a).hystT = s.hystT := rfl
@[simp] theorem State.setTxa_ports (a : Staged) : (s.setTxa a).ports = s.ports := rfl

@[simp] theorem State.setTxs_cfg (a : Staged) : (s.setTxs a).cfg = s.cfg := rfl
@[simp] theorem State.setTxs_rstat (a : Staged) : (s.setTxs a).rstat = s.rstat := rfl
@[simp] theorem State.setTxs_rdata (a : Staged) : (s.setTxs a).rdata = s.rdata := rfl
@[simp] theorem State.setTxs_chans (a : Staged) : (s.setTxs a).chans = s.chans := rfl
@[simp] theorem State.setTxs_buttons (a : Staged) : (s.setTxs a).buttons = s.buttons := rfl
@[simp] theorem State.setTxs_rxInprog (a : Staged) : (s.setTxs a).rxInprog = s.rxInprog := rfl
@[simp] theorem State.setTxs_rxLen (a : Staged) : (s.setTxs a).rxLen = s.rxLen := rfl
@[simp] theorem State.setTxs_rxBuf (a : Staged) : (s.setTxs a).rxBuf = s.rxBuf := rfl
@[simp] theorem State.setTxs_msgValid (a : Staged) : (s.setTxs a).msgValid = s.msgValid := rfl
@[simp] theorem State.setTxs_msgLen (a : Staged) : (s.setTxs a).msgLen = s.msgLen := rfl
@[simp] theorem State.setTxs_msg (a : Staged) : (s.setTxs a).msg = s.msg := rfl
@[simp] theorem State.setTxs_csum (a : Staged) : (s.setTxs a).csum = s.csum := rfl
@[simp] theorem State.setTxs_txa (a : Staged) : (s.setTxs a).txa = s.txa := rfl
@[simp] theorem State.setTxs_txs (a : Staged) : (s.setTxs a).txs = a := rfl
@[simp] theorem State.setTxs_slots (a : Staged) : (s.setTxs a).slots = s.slots := rfl
@[simp] theorem State.setTxs_channel (a : Staged) : (s.setTxs a).channel = s.channel := rfl
@[simp] theorem State.setTxs_mfrId (a : Staged) : (s.setTxs a).mfrId = s.mfrId := rfl
@[simp] theorem State.setTxs_modelId (a : Staged) : (s.setTxs a).modelId = s.modelId := rfl
@[simp] theorem State.setTxs_hystT (a : Staged) : (s.setTxs a).hystT = s.hystT := rfl
@[simp] theorem State.setTxs_ports (a : Staged) : (s.setTxs a).ports = s.ports := rfl

@[simp] theorem State.setChannel_cfg (v : BitVec 5) : (s.setChannel v).cfg = s.cfg := rfl
@[simp] theorem State.setChannel_rstat (v : BitVec 5) : (s.setChannel v).rstat = s.rstat := rfl
@[simp] theorem State.setChannel_rdata (v : BitVec 5) : (s.setChannel v).rdata = s.rdata := rfl
@[simp] theorem State.setChannel_chans (v : BitVec 5) : (s.setChannel v).chans = s.chans := rfl
@[simp] theorem State.setChannel_buttons (v : BitVec 5) : (s.setChannel v).buttons = s.buttons := rfl
@[simp] theorem State.setChannel_rxInprog (v : BitVec 5) : (s.setChannel v).rxInprog = s.rxInprog := rfl
@[simp] theorem State.setChannel_rxLen (v : BitVec 5) : (s.setChannel v).rxLen = s.rxLen := rfl
@[simp] theorem State.setChannel_rxBuf (v : BitVec 5) : (s.setChannel v).rxBuf = s.rxBuf := rfl
@[simp] theorem State.setChannel_msgValid (v : BitVec 5) : (s.setChannel v).msgValid = s.msgValid := rfl
@[simp] theorem State.setChannel_msgLen (v : BitVec 5) : (s.setChannel v).msgLen = s.msgLen := rfl
@[simp] theorem State.setChannel_msg (v : BitVec 5) : (s.setChannel v).msg = s.msg := rfl
@[simp] theorem State.setChannel_csum (v : BitVec 5) : (s.setChannel v).csum = s.csum := rfl
@[simp] theorem State.setChannel_txa (v : BitVec 5) : (s.setChannel v).txa = s.txa := rfl
@[simp] theorem State.setChannel_txs (v : BitVec 5) : (s.setChannel v).txs = s.txs := rfl
@[simp] theorem State.setChannel_slots (v : BitVec 5) : (s.setChannel v).slots = s.slots := rfl
@[simp] theorem State.setChannel_channel (v : BitVec 5) : (s.setChannel v).channel = v := rfl
@[simp] theorem State.setChannel_mfrId (v : BitVec 5) : (s.setChannel v).mfrId = s.mfrId := rfl
@[simp] theorem State.setChannel_modelId (v : BitVec 5) : (s.setChannel v).modelId = s.modelId := rfl
@[simp] theorem State.setChannel_hystT (v : BitVec 5) : (s.setChannel v).hystT = s.hystT := rfl
@[simp] theorem State.setChannel_ports (v : BitVec 5) : (s.setChannel v).ports = s.ports := rfl

@[simp] theorem State.setMfrId_cfg (v : BitVec 7) : (s.setMfrId v).cfg = s.cfg := rfl
@[simp] theorem State.setMfrId_rstat (v : BitVec 7) : (s.setMfrId v).rstat = s.rstat := rfl
@[simp] theorem State.setMfrId_rdata (v : BitVec 7) : (s.setMfrId v).rdata = s.rdata := rfl
@[simp] theorem State.setMfrId_chans (v : BitVec 7) : (s.setMfrId v).chans = s.chans := rfl
@[simp] theorem State.setMfrId_buttons (v : BitVec 7) : (s.setMfrId v).buttons = s.buttons := rfl
@[simp] theorem State.setMfrId_rxInprog (v : BitVec 7) : (s.setMfrId v).rxInprog = s.rxInprog := rfl
@[simp] theorem State.setMfrId_rxLen (v : BitVec 7) : (s.setMfrId v).rxLen = s.rxLen := rfl
@[simp] theorem State.setMfrId_rxBuf (v : BitVec 7) : (s.setMfrId v).rxBuf = s.rxBuf := rfl
@[simp] theorem State.setMfrId_msgValid (v : BitVec 7) : (s.setMfrId v).msgValid = s.msgValid := rfl
@[simp] theorem State.setMfrId_msgLen (v : BitVec 7) : (s.setMfrId v).msgLen = s.msgLen := rfl
@[simp] theorem State.setMfrId_msg (v : BitVec 7) : (s.setMfrId v).msg = s.msg := rfl
@[simp] theorem State.setMfrId_csum (v : BitVec 7) : (s.setMfrId v).csum = s.csum := rfl
@[simp] theorem State.setMfrId_txa (v : BitVec 7) : (s.setMfrId v).txa = s.txa := rfl
@[simp] theorem State.setMfrId_txs (v : BitVec 7) : (s.setMfrId v).txs = s.txs := rfl
@[simp] theorem State.setMfrId_slots (v : BitVec 7) : (s.setMfrId v).slots = s.slots := rfl
@[simp] theorem State.setMfrId_channel (v : BitVec 7) : (s.setMfrId v).channel = s.channel := rfl
@[simp] theorem State.setMfrId_mfrId (v : BitVec 7) : (s.setMfrId v).mfrId = v := rfl
@[simp] theorem State.setMfrId_modelId (v : BitVec 7) : (s.setMfrId v).modelId = s.modelId := rfl
@[simp] theorem State.setMfrId_hystT (v : BitVec 7) : (s.setMfrId v).hystT = s.hystT := rfl
@[simp] theorem State.setMfrId_ports (v : BitVec 7) : (s.setMfrId v).ports = s.ports := rfl

@[simp] theorem State.setModelId_cfg (v : BitVec 7) : (s.setModelId v).cfg = s.cfg := rfl
@[simp] theorem State.setModelId_rstat (v : BitVec 7) : (s.setModelId v).rstat = s.rstat := rfl
@[simp] theorem State.setModelId_rdata (v : BitVec 7) : (s.setModelId v).rdata = s.rdata := rfl
@[simp] theorem State.setModelId_chans (v : BitVec 7) : (s.setModelId v).chans = s.chans := rfl
@[simp] theorem State.setModelId_buttons (v : BitVec 7) : (s.setModelId v).buttons = s.buttons := rfl
@[simp] theorem State.setModelId_rxInprog (v : BitVec 7) : (s.setModelId v).rxInprog = s.rxInprog := rfl
@[simp] theorem State.setModelId_rxLen (v : BitVec 7) : (s.setModelId v).rxLen = s.rxLen := rfl
@[simp] theorem State.setModelId_rxBuf (v : BitVec 7) : (s.setModelId v).rxBuf = s.rxBuf := rfl
@[simp] theorem State.setModelId_msgValid (v : BitVec 7) : (s.setModelId v).msgValid = s.msgValid := rfl
@[simp] theorem State.setModelId_msgLen (v : BitVec 7) : (s.setModelId v).msgLen = s.msgLen := rfl
@[simp] theorem State.setModelId_msg (v : BitVec 7) : (s.setModelId v).msg = s.msg := rfl
@[simp] theorem State.setModelId_csum (v : BitVec 7) : (s.setModelId v).csum = s.csum := rfl
@[simp] theorem State.setModelId_txa (v : BitVec 7) : (s.setModelId v).txa = s.txa := rfl
@[simp] theorem State.setModelId_txs (v : BitVec 7) : (s.setModelId v).txs = s.txs := rfl
@[simp] theorem State.setModelId_slots (v : BitVec 7) : (s.setModelId v).slots = s.slots := rfl
@[simp] theorem State.setModelId_channel (v : BitVec 7) : (s.setModelId v).channel = s.channel := rfl
@[simp] theorem State.setModelId_mfrId (v : BitVec 7) : (s.setModelId v).mfrId = s.mfrId := rfl
@[simp] theorem State.setModelId_modelId (v : BitVec 7) : (s.setModelId v).modelId = v := rfl
@[simp] theorem State.setModelId_hystT (v : BitVec 7) : (s.setModelId v).hystT = s.hystT := rfl
@[simp] theorem State.setModelId_ports (v : BitVec 7) : (s.setModelId v).ports = s.ports := rfl

@[simp] theorem State.setHystT_cfg (v : BitVec 6) : (s.setHystT v).cfg = s.cfg := rfl
@[simp] theorem State.setHystT_rstat (v : BitVec 6) : (s.setHystT v).rstat = s.rstat := rfl
@[simp] theorem State.setHystT_rdata (v : BitVec 6) : (s.setHystT v).rdata = s.rdata := rfl
@[simp] theorem State.setHystT_chans (v : BitVec 6) : (s.setHystT v).chans = s.chans := rfl
@[simp] theorem State.setHystT_buttons (v : BitVec 6) : (s.setHystT v).buttons = s.buttons := rfl
@[simp] theorem State.setHystT_rxInprog (v : BitVec 6) : (s.setHystT v).rxInprog = s.rxInprog := rfl
@[simp] theorem State.setHystT_rxLen (v : BitVec 6) : (s.setHystT v).rxLen = s.rxLen := rfl
@[simp] theorem State.setHystT_rxBuf (v : BitVec 6) : (s.setHystT v).rxBuf = s.rxBuf := rfl
@[simp] theorem State.setHystT_msgValid (v : BitVec 6) : (s.setHystT v).msgValid = s.msgValid := rfl
@[simp] theorem State.setHystT_msgLen (v : BitVec 6) : (s.setHystT v).msgLen = s.msgLen := rfl
@[simp] theorem State.setHystT_msg (v : BitVec 6) : (s.setHystT v).msg = s.msg := rfl
@[simp] theorem State.setHystT_csum (v : BitVec 6) : (s.setHystT v).csum = s.csum := rfl
@[simp] theorem State.setHystT_txa (v : BitVec 6) : (s.setHystT v).txa = s.txa := rfl
@[simp] theorem State.setHystT_txs (v : BitVec 6) : (s.setHystT v).txs = s.txs := rfl
@[simp] theorem State.setHystT_slots (v : BitVec 6) : (s.setHystT v).slots = s.slots := rfl
@[simp] theorem State.setHystT_channel (v : BitVec 6) : (s.setHystT v).channel = s.channel := rfl
@[simp] theorem State.setHystT_mfrId (v : BitVec 6) : (s.setHystT v).mfrId = s.mfrId := rfl
@[simp] theorem State.setHystT_modelId (v : BitVec 6) : (s.setHystT v).modelId = s.modelId := rfl
@[simp] theorem State.setHystT_hystT (v : BitVec 6) : (s.setHystT v).hystT = v := rfl
@[simp] theorem State.setHystT_ports (v : BitVec 6) : (s.setHystT v).ports = s.ports := rfl

@[simp] theorem State.setPorts_cfg (p : Ports) : (s.setPorts p).cfg = s.cfg := rfl
@[simp] theorem State.setPorts_rstat (p : Ports) : (s.setPorts p).rstat = s.rstat := rfl
@[simp] theorem State.setPorts_rdata (p : Ports) : (s.setPorts p).rdata = s.rdata := rfl
@[simp] theorem State.setPorts_chans (p : Ports) : (s.setPorts p).chans = s.chans := rfl
@[simp] theorem State.setPorts_buttons (p : Ports) : (s.setPorts p).buttons = s.buttons := rfl
@[simp] theorem State.setPorts_rxInprog (p : Ports) : (s.setPorts p).rxInprog = s.rxInprog := rfl
@[simp] theorem State.setPorts_rxLen (p : Ports) : (s.setPorts p).rxLen = s.rxLen := rfl
@[simp] theorem State.setPorts_rxBuf (p : Ports) : (s.setPorts p).rxBuf = s.rxBuf := rfl
@[simp] theorem State.setPorts_msgValid (p : Ports) : (s.setPorts p).msgValid = s.msgValid := rfl
@[simp] theorem State.setPorts_msgLen (p : Ports) : (s.setPorts p).msgLen = s.msgLen := rfl
@[simp] theorem State.setPorts_msg (p : Ports) : (s.setPorts p).msg = s.msg := rfl
@[simp] theorem State.setPorts_csum (p : Ports) : (s.setPorts p).csum = s.csum := rfl
@[simp] theorem State.setPorts_txa (p : Ports) : (s.setPorts p).txa = s.txa := rfl
@[simp] theorem State.setPorts_txs (p : Ports) : (s.setPorts p).txs = s.txs := rfl
@[simp] theorem State.setPorts_slots (p : Ports) : (s.setPorts p).slots = s.slots := rfl
@[simp] theorem State.setPorts_channel (p : Ports) : (s.setPorts p).channel = s.channel := rfl
@[simp] theorem State.setPorts_mfrId (p : Ports) : (s.setPorts p).mfrId = s.mfrId := rfl
@[simp] theorem State.setPorts_modelId (p : Ports) : (s.setPorts p).modelId = s.modelId := rfl
@[simp] theorem State.setPorts_hystT (p : Ports) : (s.setPorts p).hystT = s.hystT := rfl
@[simp] theorem State.setPorts_ports (p : Ports) : (s.setPorts p).ports = p := rfl

end StateUpdates

section PortUpdates

variable (p : Ports)

@[simp] theorem Ports.afterAdc_cmdIn (a b : Nat) : (p.afterAdc a b).cmdIn = p.cmdIn := rfl
@[simp] theorem Ports.afterAdc_adcIn (a b : Nat) : (p.afterAdc a b).adcIn = p.adcIn.tail := rfl
@[simp] theorem Ports.afterAdc_adcLog (a b : Nat) : (p.afterAdc a b).adcLog = p.adcLog ++ [⟨a, b⟩] := rfl
@[simp] theorem Ports.afterAdc_pinsIn (a b : Nat) : (p.afterAdc a b).pinsIn = p.pinsIn := rfl
@[simp] theorem Ports.afterAdc_pinsCount (a b : Nat) : (p.afterAdc a b).pinsCount = p.pinsCount := rfl
@[simp] theorem Ports.afterAdc_nowIn (a b : Nat) : (p.afterAdc a b).nowIn = p.nowIn := rfl
@[simp] theorem Ports.afterAdc_nowCount (a b : Nat) : (p.afterAdc a b).nowCount = p.nowCount := rfl
@[simp] theorem Ports.afterAdc_tx (a b : Nat) : (p.afterAdc a b).tx = p.tx := rfl
@[simp] theorem Ports.afterAdc_aborts (a b : Nat) : (p.afterAdc a b).aborts = p.aborts := rfl

@[simp] theorem Ports.afterPins_cmdIn : (p.afterPins).cmdIn = p.cmdIn := rfl
@[simp] theorem Ports.afterPins_adcIn : (p.afterPins).adcIn = p.adcIn := rfl
@[simp] theorem Ports.afterPins_adcLog : (p.afterPins).adcLog = p.adcLog := rfl
@[simp] theorem Ports.afterPins_pinsIn : (p.afterPins).pinsIn = p.pinsIn.tail := rfl
@[simp] theorem Ports.afterPins_pinsCount : (p.afterPins).pinsCount = p.pinsCount + 1 := rfl
@[simp] theorem Ports.afterPins_nowIn : (p.afterPins).nowIn = p.nowIn := rfl
@[simp] theorem Ports.afterPins_nowCount : (p.afterPins).nowCount = p.nowCount := rfl
@[simp] theorem Ports.afterPins_tx : (p.afterPins).tx = p.tx := rfl
@[simp] theorem Ports.afterPins_aborts : (p.afterPins).aborts = p.aborts := rfl

@[simp] theorem Ports.afterNow_cmdIn : (p.afterNow).cmdIn = p.cmdIn := rfl
@[simp] theorem Ports.afterNow_adcIn : (p.afterNow).adcIn = p.adcIn := rfl
@[simp] theorem Ports.afterNow_adcLog : (p.afterNow).adcLog = p.adcLog := rfl
@[simp] theorem Ports.afterNow_pinsIn : (p.afterNow).pinsIn = p.pinsIn := rfl
@[simp] theorem Ports.afterNow_pinsCount : (p.afterNow).pinsCount = p.pinsCount := rfl
@[simp] theorem Ports.afterNow_nowIn : (p.afterNow).nowIn = p.nowIn.tail := rfl
@[simp] theorem Ports.afterNow_nowCount : (p.afterNow).nowCount = p.nowCount + 1 := rfl
@[simp] theorem Ports.afterNow_tx : (p.afterNow).tx = p.tx := rfl
@[simp] theorem Ports.afterNow_aborts : (p.afterNow).aborts = p.aborts := rfl

@[simp] theorem Ports.emit_cmdIn (b : List (BitVec 8)) : (p.emit b).cmdIn = p.cmdIn := rfl
@[simp] theorem Ports.emit_adcIn (b : List (BitVec 8)) : (p.emit b).adcIn = p.adcIn := rfl
@[simp] theorem Ports.emit_adcLog (b : List (BitVec 8)) : (p.emit b).adcLog = p.adcLog := rfl
@[simp] theorem Ports.emit_pinsIn (b : List (BitVec 8)) : (p.emit b).pinsIn = p.pinsIn := rfl
@[simp] theorem Ports.emit_pinsCount (b : List (BitVec 8)) : (p.emit b).pinsCount = p.pinsCount := rfl
@[simp] theorem Ports.emit_nowIn (b : List (BitVec 8)) : (p.emit b).nowIn = p.nowIn := rfl
@[simp] theorem Ports.emit_nowCount (b : List (BitVec 8)) : (p.emit b).nowCount = p.nowCount := rfl
@[simp] theorem Ports.emit_tx (b : List (BitVec 8)) : (p.emit b).tx = p.tx ++ b := rfl
@[simp] theorem Ports.emit_aborts (b : List (BitVec 8)) : (p.emit b).aborts = p.aborts := rfl

end PortUpdates

section Elements

variable (s : State)

theorem State.chan_eq_getElem {ch : Nat} (h : ch < s.chans.length) : s.chan ch = s.chans[ch] := by
  simp [State.chan, h]

theorem State.button_eq_getElem {i : Nat} (h : i < s.buttons.length) : s.button i = s.buttons[i] := by
  simp [State.button, h]

theorem State.slot_eq_getElem {p : Nat} (h : p < s.slots.length) : s.slot p = s.slots[p] := by
  simp [State.slot, h]

/-- Reading the channel just written. -/
theorem State.chan_setChan_self {ch : Nat} (c : Channel) (h : ch < s.chans.length) :
    (s.setChan ch c).chan ch = c := by
  simp [State.chan, h]

/-- Every other channel is left as it was. -/
theorem State.chan_setChan_ne {i j : Nat} (c : Channel) (h : i ≠ j) : (s.setChan i c).chan j = s.chan j := by
  simp [State.chan, List.getD_eq_getElem?_getD, List.getElem?_set_ne h]

/-- Reading the slot just written. -/
theorem State.slot_setSlot_self {p : Nat} (x : Slot) (h : p < s.slots.length) : (s.setSlot p x).slot p = x := by
  simp [State.slot, h]

/-- Every other slot is left as it was. -/
theorem State.slot_setSlot_ne {i j : Nat} (x : Slot) (h : i ≠ j) : (s.setSlot i x).slot j = s.slot j := by
  simp [State.slot, List.getD_eq_getElem?_getD, List.getElem?_set_ne h]


@[simp] theorem State.answer_chan (x : BitVec 4) (d : BitVec 32) (k : Nat) : (s.answer x d).chan k = s.chan k := rfl
@[simp] theorem State.setButtons_chan (bs : List Button) (k : Nat) : (s.setButtons bs).chan k = s.chan k := rfl
@[simp] theorem State.setSlot_chan (p : Nat) (x : Slot) (k : Nat) : (s.setSlot p x).chan k = s.chan k := rfl
@[simp] theorem State.setFramer_chan (a : Bool) (n : BitVec 8) (b : List (BitVec 8)) (k : Nat) : (s.setFramer a n b).chan k = s.chan k := rfl
@[simp] theorem State.setLatch_chan (a : Bool) (n : BitVec 8) (b : List (BitVec 8)) (k : Nat) : (s.setLatch a n b).chan k = s.chan k := rfl
@[simp] theorem State.setCsum_chan (v : BitVec 7) (k : Nat) : (s.setCsum v).chan k = s.chan k := rfl
@[simp] theorem State.setTxa_chan (a : Staged) (k : Nat) : (s.setTxa a).chan k = s.chan k := rfl
@[simp] theorem State.setTxs_chan (a : Staged) (k : Nat) : (s.setTxs a).chan k = s.chan k := rfl
@[simp] theorem State.setChannel_chan (v : BitVec 5) (k : Nat) : (s.setChannel v).chan k = s.chan k := rfl
@[simp] theorem State.setMfrId_chan (v : BitVec 7) (k : Nat) : (s.setMfrId v).chan k = s.chan k := rfl
@[simp] theorem State.setModelId_chan (v : BitVec 7) (k : Nat) : (s.setModelId v).chan k = s.chan k := rfl
@[simp] theorem State.setHystT_chan (v : BitVec 6) (k : Nat) : (s.setHystT v).chan k = s.chan k := rfl
@[simp] theorem State.setPorts_chan (p : Ports) (k : Nat) : (s.setPorts p).chan k = s.chan k := rfl
@[simp] theorem State.answer_button (x : BitVec 4) (d : BitVec 32) (k : Nat) : (s.answer x d).button k = s.button k := rfl
@[simp] theorem State.setChan_button (i : Nat) (c : Channel) (k : Nat) : (s.setChan i c).button k = s.button k := rfl
@[simp] theorem State.setChans_button (cs : List Channel) (k : Nat) : (s.setChans cs).button k = s.button k := rfl
@[simp] theorem State.setSlot_button (p : Nat) (x : Slot) (k : Nat) : (s.setSlot p x).button k = s.button k := rfl
@[simp] theorem State.setFramer_button (a : Bool) (n : BitVec 8) (b : List (BitVec 8)) (k : Nat) : (s.setFramer a n b).button k = s.button k := rfl
@[simp] theorem State.setLatch_button (a : Bool) (n : BitVec 8) (b : List (BitVec 8)) (k : Nat) : (s.setLatch a n b).button k = s.button k := rfl
@[simp] theorem State.setCsum_button (v : BitVec 7) (k : Nat) : (s.setCsum v).button k = s.button k := rfl
@[simp] theorem State.setTxa_button (a : Staged) (k : Nat) : (s.setTxa a).button k = s.button k := rfl
@[simp] theorem State.setTxs_button (a : Staged) (k : Nat) : (s.setTxs a).button k = s.button k := rfl
@[simp] theorem State.setChannel_button (v : BitVec 5) (k : Nat) : (s.setChannel v).button k = s.button k := rfl
@[simp] theorem State.setMfrId_button (v : BitVec 7) (k : Nat) : (s.setMfrId v).button k = s.button k := rfl
@[simp] theorem State.setModelId_button (v : BitVec 7) (k : Nat) : (s.setModelId v).button k = s.button k := rfl
@[simp] theorem State.setHystT_button (v : BitVec 6) (k : Nat) : (s.setHystT v).button k = s.button k := rfl
@[simp] theorem State.setPorts_button (p : Ports) (k : Nat) : (s.setPorts p).button k = s.button k := rfl
@[simp] theorem State.answer_slot (x : BitVec 4) (d : BitVec 32) (k : Nat) : (s.answer x d).slot k = s.slot k := rfl
@[simp] theorem State.setChan_slot (i : Nat) (c : Channel) (k : Nat) : (s.setChan i c).slot k = s.slot k := rfl
@[simp] theorem State.setChans_slot (cs : List Channel) (k : Nat) : (s.setChans cs).slot k = s.slot k := rfl
@[simp] theorem State.setButtons_slot (bs : List Button) (k : Nat) : (s.setButtons bs).slot k = s.slot k := rfl
@[simp] theorem State.setFramer_slot (a : Bool) (n : BitVec 8) (b : List (BitVec 8)) (k : Nat) : (s.setFramer a n b).slot k = s.slot k := rfl
@[simp] theorem State.setLatch_slot (a : Bool) (n : BitVec 8) (b : List (BitVec 8)) (k : Nat) : (s.setLatch a n b).slot k = s.slot k := rfl
@[simp] theorem State.setCsum_slot (v : BitVec 7) (k : Nat) : (s.setCsum v).slot k = s.slot k := rfl
@[simp] theorem State.setTxa_slot (a : Staged) (k : Nat) : (s.setTxa a).slot k = s.slot k := rfl
@[simp] theorem State.setTxs_slot (a : Staged) (k : Nat) : (s.setTxs a).slot k = s.slot k := rfl
@[simp] theorem State.setChannel_slot (v : BitVec 5) (k : Nat) : (s.setChannel v).slot k = s.slot k := rfl
@[simp] theorem State.setMfrId_slot (v : BitVec 7) (k : Nat) : (s.setMfrId v).slot k = s.slot k := rfl
@[simp] theorem State.setModelId_slot (v : BitVec 7) (k : Nat) : (s.setModelId v).slot k = s.slot k := rfl
@[simp] theorem State.setHystT_slot (v : BitVec 6) (k : Nat) : (s.setHystT v).slot k = s.slot k := rfl
@[simp] theorem State.setPorts_slot (p : Ports) (k : Nat) : (s.setPorts p).slot k = s.slot k := rfl

end Elements

end Sys2Proof.Machine
end

