-- ==== Sys2Proof/Laws/Ops.lean ====
section
/-! SUPPORT. One lemma per shared operation, saying once everything it can do; later proofs cite these instead of
unfolding the operation. -/

namespace Sys2Proof.Machine

/-! ## Index checks (20_memory.md R60) -/

section Indices

variable (s : State) (k : Nat → State)

/-- An analog-channel operand goes on with its number below NUM_CH and answers BAD_INDEX otherwise. -/
theorem State.onChannel_cases (ch : BitVec 10) :
    (ch.toNat < s.cfg.numCh ∧ s.onChannel ch k = k ch.toNat) ∨
    (s.cfg.numCh ≤ ch.toNat ∧ s.onChannel ch k = s.answer 8 0) := by
  by_cases h : s.cfg.numCh ≤ ch.toNat
  · exact .inr ⟨h, by simp [State.onChannel, h, Status.code]⟩
  · exact .inl ⟨by omega, by simp [State.onChannel, h]⟩

theorem State.onChannel_of_lt {ch : BitVec 10} (h : ch.toNat < s.cfg.numCh) : s.onChannel ch k = k ch.toNat := by
  simp [State.onChannel, Nat.not_le.mpr h]

theorem State.onChannel_of_le {ch : BitVec 10} (h : s.cfg.numCh ≤ ch.toNat) : s.onChannel ch k = s.answer 8 0 := by
  simp [State.onChannel, h, Status.code]

/-- A button operand goes on with its number below BTN_COUNT and answers BAD_INDEX otherwise. -/
theorem State.onButton_cases (i : BitVec 10) :
    (i.toNat < s.cfg.btnCount ∧ s.onButton i k = k i.toNat) ∨
    (s.cfg.btnCount ≤ i.toNat ∧ s.onButton i k = s.answer 8 0) := by
  by_cases h : s.cfg.btnCount ≤ i.toNat
  · exact .inr ⟨h, by simp [State.onButton, h, Status.code]⟩
  · exact .inl ⟨by omega, by simp [State.onButton, h]⟩

theorem State.onButton_of_lt {i : BitVec 10} (h : i.toNat < s.cfg.btnCount) : s.onButton i k = k i.toNat := by
  simp [State.onButton, Nat.not_le.mpr h]

theorem State.onButton_of_le {i : BitVec 10} (h : s.cfg.btnCount ≤ i.toNat) : s.onButton i k = s.answer 8 0 := by
  simp [State.onButton, h, Status.code]

/-- A slot operand goes on with its number below PARAM_COUNT and answers INVALID_PARAM otherwise. -/
theorem State.onSlot_cases (p : BitVec 10) :
    (p.toNat < s.cfg.paramCount ∧ s.onSlot p k = k p.toNat) ∨
    (s.cfg.paramCount ≤ p.toNat ∧ s.onSlot p k = s.answer 2 0) := by
  by_cases h : s.cfg.paramCount ≤ p.toNat
  · exact .inr ⟨h, by simp [State.onSlot, h, Status.code]⟩
  · exact .inl ⟨by omega, by simp [State.onSlot, h]⟩

theorem State.onSlot_of_lt {p : BitVec 10} (h : p.toNat < s.cfg.paramCount) : s.onSlot p k = k p.toNat := by
  simp [State.onSlot, Nat.not_le.mpr h]

theorem State.onSlot_of_le {p : BitVec 10} (h : s.cfg.paramCount ≤ p.toNat) : s.onSlot p k = s.answer 2 0 := by
  simp [State.onSlot, h, Status.code]

/-- A message-byte operand goes on below MSG_LEN while a message is latched and answers BAD_INDEX otherwise. -/
theorem State.onMessage_cases (i : BitVec 10) :
    (s.msgValid = true ∧ i.toNat < s.msgLen.toNat ∧ s.onMessage i k = k i.toNat) ∨
    ((s.msgValid = false ∨ s.msgLen.toNat ≤ i.toNat) ∧ s.onMessage i k = s.answer 8 0) := by
  by_cases h : s.msgValid = false ∨ s.msgLen.toNat ≤ i.toNat
  · exact .inr ⟨h, by simp [State.onMessage, h, Status.code]⟩
  · refine .inl ⟨by simpa using fun e => h (.inl e), by omega, by simp only [State.onMessage, if_neg h]⟩

/-- A register operand goes on up to 7 and answers BAD_INDEX above. -/
theorem State.onRegister_cases (r : BitVec 10) :
    (r.toNat ≤ 7 ∧ s.onRegister r k = k r.toNat) ∨ (7 < r.toNat ∧ s.onRegister r k = s.answer 8 0) := by
  by_cases h : 7 < r.toNat
  · exact .inr ⟨h, by simp [State.onRegister, h, Status.code]⟩
  · exact .inl ⟨by omega, by simp [State.onRegister, h]⟩

end Indices

/-! ## Ports -/

/-- An ADC transfer returns the next listed sample when there is one. -/
theorem Ports.adcSample_cons {p : Ports} {v : BitVec 10} {rest : List (BitVec 10)} (h : p.adcIn = v :: rest)
    (a b : Nat) : p.adcSample a b = v := by
  simp [Ports.adcSample, h]

/-- The time input returns the next listed time when there is one. -/
theorem Ports.now_cons {p : Ports} {v : BitVec 32} {rest : List (BitVec 32)} (h : p.nowIn = v :: rest) : p.now = v := by
  simp [Ports.now, h]

/-- The button port returns the next listed vector when there is one. -/
theorem Ports.pins_cons {p : Ports} {v : BitVec 32} {rest : List (BitVec 32)} (h : p.pinsIn = v :: rest) :
    p.pins = v := by
  simp [Ports.pins, h]

/-! ## Checksums -/

theorem byteSum_append (a b : List (BitVec 8)) : byteSum (a ++ b) = byteSum a + byteSum b := by
  simp [byteSum]

theorem csGen_toNat (B : List (BitVec 8)) : (csGen B).toNat = (128 - byteSum B % 128) % 128 := by
  simp [csGen]

theorem csOk_iff (B : List (BitVec 8)) (c : BitVec 8) : csOk B c = true ↔ (byteSum B + c.toNat) % 128 = 0 := by
  simp [csOk]

/-! ## Sending -/

/-- A rate-limited send samples the time once; then it either emits the bytes and marks the slot, or does neither. -/
theorem State.limitedSend_cases (s : State) (p : Nat) (bytes : List (BitVec 8)) :
    ((s.slot p).rateOk s.cfg.rateMs s.ports.now = true ∧
      s.limitedSend p bytes =
        ((s.setPorts (s.ports.afterNow.emit bytes)).setSlot p ((s.slot p).rateMark s.ports.now)).answer 0 1) ∨
    ((s.slot p).rateOk s.cfg.rateMs s.ports.now = false ∧
      s.limitedSend p bytes = (s.setPorts s.ports.afterNow).answer 0 0) := by
  cases h : (s.slot p).rateOk s.cfg.rateMs s.ports.now
  · exact .inr ⟨rfl, by simp [State.limitedSend, h]⟩
  · exact .inl ⟨rfl, by simp [State.limitedSend, h, State.setPorts]⟩

/-! ## The framer -/

/-- What RX_BYTE can do: dispatch a real-time byte, ignore a byte or start a message in Idle, or append. -/
theorem State.rxByte_cases (s : State) (b : BitVec 8) :
    (0xF8 ≤ b.toNat ∧ s.rxByte b = s.answer 0 (rxResult 1 b)) ∨
    (b.toNat < 0xF8 ∧ s.rxInprog = false ∧ b = 0xF0#8 ∧
      s.rxByte b = (s.setFramer true 1 (s.rxBuf.set 0 0xF0#8)).answer 0 0) ∨
    (b.toNat < 0xF8 ∧ s.rxInprog = false ∧ b ≠ 0xF0#8 ∧ s.rxByte b = s.answer 0 0) ∨
    (b.toNat < 0xF8 ∧ s.rxInprog = true ∧ s.rxByte b = s.rxAppend b) := by
  by_cases hb : 0xF8 ≤ b.toNat
  · exact .inl ⟨hb, by simp [State.rxByte, isRealTime, hb]⟩
  · have hr : isRealTime b = false := by simp [isRealTime]; omega
    cases hi : s.rxInprog
    · by_cases h0 : b = 0xF0#8
      · exact .inr (.inl ⟨by omega, rfl, h0, by simp [State.rxByte, hi, h0, startByte, isRealTime]⟩)
      · exact .inr (.inr (.inl ⟨by omega, rfl, h0, by simp [State.rxByte, hr, hi, h0, startByte]⟩))
    · exact .inr (.inr (.inr ⟨by omega, rfl, by simp [State.rxByte, hr, hi]⟩))

/-- What appending can do: end a message (latched or dropped), overflow, or go on accumulating. -/
theorem State.rxAppend_cases (s : State) (b : BitVec 8) :
    let buf := s.rxBuf.set s.rxLen.toNat b
    let len := s.rxLen + 1
    (b = 0xF7#8 ∧ validate buf len.toNat = true ∧
      s.rxAppend b = ((s.setFramer false 0 buf).setLatch true len
        (buf.take len.toNat ++ s.msg.drop len.toNat)).answer 0 (rxResult 2 len)) ∨
    (b = 0xF7#8 ∧ validate buf len.toNat = false ∧ s.rxAppend b = (s.setFramer false 0 buf).answer 0 0) ∨
    (b ≠ 0xF7#8 ∧ len.toNat = s.cfg.sysexMax ∧ s.rxAppend b = (s.setFramer false 0 buf).answer 0 0) ∨
    (b ≠ 0xF7#8 ∧ len.toNat ≠ s.cfg.sysexMax ∧ s.rxAppend b = (s.setFramer true len buf).answer 0 0) := by
  intro buf len
  by_cases hb : b = 0xF7#8
  · cases hv : validate buf len.toNat
    · refine .inr (.inl ⟨hb, rfl, ?_⟩)
      simp only [State.rxAppend, if_pos (show b = endByte from hb)]
      exact if_neg (Bool.eq_false_iff.mp hv)
    · refine .inl ⟨hb, rfl, ?_⟩
      simp only [State.rxAppend, if_pos (show b = endByte from hb)]
      exact if_pos hv
  · have hb' : ¬ b = endByte := hb
    by_cases hl : len.toNat = s.cfg.sysexMax
    · exact .inr (.inr (.inl ⟨hb, hl, by simp only [State.rxAppend, if_neg hb']; exact if_pos hl⟩))
    · exact .inr (.inr (.inr ⟨hb, hl, by simp only [State.rxAppend, if_neg hb']; exact if_neg hl⟩))

/-- What a reset during a command leaves at the transmit port: a prefix of the command's bytes (70_reset_and_hazards.md
R281). -/
theorem Ports.abort_tx (before after : Ports) :
    ∃ n, (before.abort after).tx = before.tx ++ (after.tx.drop before.tx.length).take n := ⟨_, rfl⟩

@[simp] theorem Ports.abort_cmdIn (before after : Ports) : (before.abort after).cmdIn = before.cmdIn := rfl

@[simp] theorem Ports.abort_aborts (before after : Ports) : (before.abort after).aborts = before.aborts + 1 := rfl

end Sys2Proof.Machine
end

