-- ==== Sys2Proof/Laws/PerInstr.lean ====
section
/-! SUPPORT. The families of statements made command by command: for each, its statement and one lemma per constructor
of `Instr`. -/

namespace Sys2Proof

/-! What a format's fixed bits are, whatever its operands (30_encoding.md R81). -/

section Formats

variable (op : BitVec 6)

theorem opField_append (rest : BitVec 26) : opField (op ++ rest) = op := BitVec.extractLsb'_append_eq_left

/-- A mask that keeps the opcode and meets only zeros below leaves the opcode over zeros. -/
theorem and_high (rest mask : BitVec 26) (h : rest &&& mask = 0#26) :
    (op ++ rest) &&& (BitVec.allOnes 6 ++ mask) = op ++ 0#26 := by
  rw [BitVec.and_append, h, BitVec.and_allOnes]

/-- Two fields that each meet only zeros of their mask meet only zeros together. -/
theorem and_parts {v w : Nat} {a m : BitVec v} {b n : BitVec w} (ha : a &&& m = 0#v) (hb : b &&& n = 0#w) :
    (a ++ b) &&& (m ++ n) = 0#(v + w) := by
  rw [BitVec.and_append, ha, hb, BitVec.zero_append_zero]

theorem encN_fixed : opField (encN op) = op ∧ encN op &&& 0xFFFFFFFF#32 = op ++ 0#26 :=
  ⟨opField_append op 0#26, BitVec.and_allOnes⟩

theorem encX_fixed (idx : BitVec 10) :
    opField (encX op idx) = op ∧ encX op idx &&& 0xFC00FFFF#32 = op ++ 0#26 := by
  refine ⟨opField_append op (idx ++ 0#16), ?_⟩
  have hmask : 0xFC00FFFF#32 = BitVec.allOnes 6 ++ (0#10 ++ 0xFFFF#16) := by decide
  rw [hmask]
  exact and_high op (idx ++ 0#16) (0#10 ++ 0xFFFF#16)
    (and_parts BitVec.and_zero BitVec.zero_and)

theorem encV_fixed (idx : BitVec 10) (v : BitVec 10) :
    opField (encV op idx v) = op ∧ encV op idx v &&& 0xFC00FC00#32 = op ++ 0#26 := by
  refine ⟨opField_append op (idx ++ (0#6 ++ v)), ?_⟩
  have hmask : 0xFC00FC00#32 = BitVec.allOnes 6 ++ (0#10 ++ (0x3F#6 ++ 0#10)) := by decide
  rw [hmask]
  exact and_high op (idx ++ (0#6 ++ v)) (0#10 ++ (0x3F#6 ++ 0#10))
    (and_parts BitVec.and_zero (and_parts BitVec.zero_and BitVec.and_zero))

theorem encH_fixed (cur : BitVec 10) (prev : BitVec 10) (thr : BitVec 6) :
    opField (encH op cur prev thr) = op ∧ encH op cur prev thr &&& 0xFC000000#32 = op ++ 0#26 := by
  refine ⟨opField_append op (cur ++ (prev ++ thr)), ?_⟩
  have hmask : 0xFC000000#32 = BitVec.allOnes 6 ++ (0#10 ++ (0#10 ++ 0#6)) := by decide
  rw [hmask]
  exact and_high op (cur ++ (prev ++ thr)) (0#10 ++ (0#10 ++ 0#6))
    (and_parts BitVec.and_zero (and_parts BitVec.and_zero BitVec.and_zero))

theorem encB_fixed (b : BitVec 8) :
    opField (encB op b) = op ∧ encB op b &&& 0xFFFFFF00#32 = op ++ 0#26 := by
  refine ⟨opField_append op (0#18 ++ b), ?_⟩
  have hmask : 0xFFFFFF00#32 = BitVec.allOnes 6 ++ (0x3FFFF#18 ++ 0#8) := by decide
  rw [hmask]
  exact and_high op (0#18 ++ b) (0x3FFFF#18 ++ 0#8)
    (and_parts BitVec.zero_and BitVec.and_zero)

theorem encT_fixed (p : BitVec 10) (a : BitVec 8) (b : BitVec 8) :
    opField (encT op p a b) = op ∧ encT op p a b &&& 0xFC000000#32 = op ++ 0#26 := by
  refine ⟨opField_append op (p ++ (a ++ b)), ?_⟩
  have hmask : 0xFC000000#32 = BitVec.allOnes 6 ++ (0#10 ++ (0#8 ++ 0#8)) := by decide
  rw [hmask]
  exact and_high op (p ++ (a ++ b)) (0#10 ++ (0#8 ++ 0#8))
    (and_parts BitVec.and_zero (and_parts BitVec.and_zero BitVec.and_zero))

theorem encP_fixed (p : BitVec 10) (b : BitVec 8) :
    opField (encP op p b) = op ∧ encP op p b &&& 0xFC00FF00#32 = op ++ 0#26 := by
  refine ⟨opField_append op (p ++ (0#8 ++ b)), ?_⟩
  have hmask : 0xFC00FF00#32 = BitVec.allOnes 6 ++ (0#10 ++ (0xFF#8 ++ 0#8)) := by decide
  rw [hmask]
  exact and_high op (p ++ (0#8 ++ b)) (0#10 ++ (0xFF#8 ++ 0#8))
    (and_parts BitVec.and_zero (and_parts BitVec.zero_and BitVec.and_zero))

theorem encA_fixed (h : BitVec 7) (m : BitVec 7) (l : BitVec 7) :
    opField (encA op h m l) = op ∧ encA op h m l &&& 0xFFE00000#32 = op ++ 0#26 := by
  refine ⟨opField_append op (0#5 ++ (h ++ (m ++ l))), ?_⟩
  have hmask : 0xFFE00000#32 = BitVec.allOnes 6 ++ (0x1F#5 ++ (0#7 ++ (0#7 ++ 0#7))) := by decide
  rw [hmask]
  exact and_high op (0#5 ++ (h ++ (m ++ l))) (0x1F#5 ++ (0#7 ++ (0#7 ++ 0#7)))
    (and_parts BitVec.zero_and (and_parts BitVec.and_zero (and_parts BitVec.and_zero BitVec.and_zero)))

theorem encI_fixed (idx : BitVec 10) (imm : BitVec 16) :
    opField (encI op idx imm) = op ∧ encI op idx imm &&& 0xFC000000#32 = op ++ 0#26 := by
  refine ⟨opField_append op (idx ++ imm), ?_⟩
  have hmask : 0xFC000000#32 = BitVec.allOnes 6 ++ (0#10 ++ 0#16) := by decide
  rw [hmask]
  exact and_high op (idx ++ imm) (0#10 ++ 0#16)
    (and_parts BitVec.and_zero BitVec.and_zero)

end Formats

/-- The encoding of a command carries the opcode of its row and matches the row's mask and pattern (30_encoding.md
R84). -/
def Laws.EncodingFitsRow.Statement (i : Instr) : Prop :=
  ∃ r, rowOf (opField (encode i)) = some r ∧ r.mnemonic = i.mnemonic ∧ encode i &&& r.mask = r.pattern

/-- The shared argument: the row found by the opcode, and the format's fixed bits. -/
theorem encodingFitsRow_of {i : Instr} {op : BitVec 6} {r : OpcodeRow} (hop : opField (encode i) = op)
    (hrow : rowOf op = some r) (hm : r.mnemonic = i.mnemonic) (hfix : encode i &&& r.mask = op ++ 0#26)
    (hpat : op ++ 0#26 = r.pattern) : Laws.EncodingFitsRow.Statement i :=
  ⟨r, hop ▸ hrow, hm, hfix.trans hpat⟩

namespace Laws.EncodingFitsRow

theorem nop : Statement (.nop) :=
  encodingFitsRow_of (encN_fixed 0x00#6).1 rfl rfl (encN_fixed 0x00#6).2 (by decide)

theorem anRead (idx : BitVec 10) : Statement (.anRead idx) :=
  encodingFitsRow_of (encX_fixed 0x01#6 idx).1 rfl rfl (encX_fixed 0x01#6 idx).2 (by decide)

theorem anGet (idx : BitVec 10) : Statement (.anGet idx) :=
  encodingFitsRow_of (encX_fixed 0x02#6 idx).1 rfl rfl (encX_fixed 0x02#6 idx).2 (by decide)

theorem anChanged (idx : BitVec 10) : Statement (.anChanged idx) :=
  encodingFitsRow_of (encX_fixed 0x03#6 idx).1 rfl rfl (encX_fixed 0x03#6 idx).2 (by decide)

theorem anCal : Statement (.anCal) :=
  encodingFitsRow_of (encN_fixed 0x04#6).1 rfl rfl (encN_fixed 0x04#6).2 (by decide)

theorem anCalrd (idx : BitVec 10) : Statement (.anCalrd idx) :=
  encodingFitsRow_of (encX_fixed 0x05#6 idx).1 rfl rfl (encX_fixed 0x05#6 idx).2 (by decide)

theorem smUpdate (idx : BitVec 10) (v : BitVec 10) : Statement (.smUpdate idx v) :=
  encodingFitsRow_of (encV_fixed 0x06#6 idx v).1 rfl rfl (encV_fixed 0x06#6 idx v).2 (by decide)

theorem smReset (idx : BitVec 10) : Statement (.smReset idx) :=
  encodingFitsRow_of (encX_fixed 0x07#6 idx).1 rfl rfl (encX_fixed 0x07#6 idx).2 (by decide)

theorem norm (idx : BitVec 10) (v : BitVec 10) : Statement (.norm idx v) :=
  encodingFitsRow_of (encV_fixed 0x08#6 idx v).1 rfl rfl (encV_fixed 0x08#6 idx v).2 (by decide)

theorem hyst (cur : BitVec 10) (prev : BitVec 10) (thr : BitVec 6) : Statement (.hyst cur prev thr) :=
  encodingFitsRow_of (encH_fixed 0x09#6 cur prev thr).1 rfl rfl (encH_fixed 0x09#6 cur prev thr).2 (by decide)

theorem btPoll : Statement (.btPoll) :=
  encodingFitsRow_of (encN_fixed 0x10#6).1 rfl rfl (encN_fixed 0x10#6).2 (by decide)

theorem btState (idx : BitVec 10) : Statement (.btState idx) :=
  encodingFitsRow_of (encX_fixed 0x11#6 idx).1 rfl rfl (encX_fixed 0x11#6 idx).2 (by decide)

theorem btPressed (idx : BitVec 10) : Statement (.btPressed idx) :=
  encodingFitsRow_of (encX_fixed 0x12#6 idx).1 rfl rfl (encX_fixed 0x12#6 idx).2 (by decide)

theorem btReleased (idx : BitVec 10) : Statement (.btReleased idx) :=
  encodingFitsRow_of (encX_fixed 0x13#6 idx).1 rfl rfl (encX_fixed 0x13#6 idx).2 (by decide)

theorem rxByte (b : BitVec 8) : Statement (.rxByte b) :=
  encodingFitsRow_of (encB_fixed 0x18#6 b).1 rfl rfl (encB_fixed 0x18#6 b).2 (by decide)

theorem rxRd (idx : BitVec 10) : Statement (.rxRd idx) :=
  encodingFitsRow_of (encX_fixed 0x19#6 idx).1 rfl rfl (encX_fixed 0x19#6 idx).2 (by decide)

theorem rxDt1 : Statement (.rxDt1) :=
  encodingFitsRow_of (encN_fixed 0x1a#6).1 rfl rfl (encN_fixed 0x1a#6).2 (by decide)

theorem csClr : Statement (.csClr) :=
  encodingFitsRow_of (encN_fixed 0x1c#6).1 rfl rfl (encN_fixed 0x1c#6).2 (by decide)

theorem csAdd (b : BitVec 8) : Statement (.csAdd b) :=
  encodingFitsRow_of (encB_fixed 0x1d#6 b).1 rfl rfl (encB_fixed 0x1d#6 b).2 (by decide)

theorem csGen : Statement (.csGen) :=
  encodingFitsRow_of (encN_fixed 0x1e#6).1 rfl rfl (encN_fixed 0x1e#6).2 (by decide)

theorem csVer (b : BitVec 8) : Statement (.csVer b) :=
  encodingFitsRow_of (encB_fixed 0x1f#6 b).1 rfl rfl (encB_fixed 0x1f#6 b).2 (by decide)

theorem txCc (p : BitVec 10) (a : BitVec 8) (b : BitVec 8) : Statement (.txCc p a b) :=
  encodingFitsRow_of (encT_fixed 0x20#6 p a b).1 rfl rfl (encT_fixed 0x20#6 p a b).2 (by decide)

theorem txPc (b : BitVec 8) : Statement (.txPc b) :=
  encodingFitsRow_of (encB_fixed 0x21#6 b).1 rfl rfl (encB_fixed 0x21#6 b).2 (by decide)

theorem txDt1 (p : BitVec 10) (b : BitVec 8) : Statement (.txDt1 p b) :=
  encodingFitsRow_of (encP_fixed 0x22#6 p b).1 rfl rfl (encP_fixed 0x22#6 p b).2 (by decide)

theorem txRq1 : Statement (.txRq1) :=
  encodingFitsRow_of (encN_fixed 0x23#6).1 rfl rfl (encN_fixed 0x23#6).2 (by decide)

theorem txSeta (h : BitVec 7) (m : BitVec 7) (l : BitVec 7) : Statement (.txSeta h m l) :=
  encodingFitsRow_of (encA_fixed 0x24#6 h m l).1 rfl rfl (encA_fixed 0x24#6 h m l).2 (by decide)

theorem txSets (h : BitVec 7) (m : BitVec 7) (l : BitVec 7) : Statement (.txSets h m l) :=
  encodingFitsRow_of (encA_fixed 0x25#6 h m l).1 rfl rfl (encA_fixed 0x25#6 h m l).2 (by decide)

theorem pdUpdate (idx : BitVec 10) (imm : BitVec 16) : Statement (.pdUpdate idx imm) :=
  encodingFitsRow_of (encI_fixed 0x28#6 idx imm).1 rfl rfl (encI_fixed 0x28#6 idx imm).2 (by decide)

theorem pdGet (idx : BitVec 10) : Statement (.pdGet idx) :=
  encodingFitsRow_of (encX_fixed 0x29#6 idx).1 rfl rfl (encX_fixed 0x29#6 idx).2 (by decide)

theorem pdPrev (idx : BitVec 10) : Statement (.pdPrev idx) :=
  encodingFitsRow_of (encX_fixed 0x2a#6 idx).1 rfl rfl (encX_fixed 0x2a#6 idx).2 (by decide)

theorem crRd (idx : BitVec 10) : Statement (.crRd idx) :=
  encodingFitsRow_of (encX_fixed 0x30#6 idx).1 rfl rfl (encX_fixed 0x30#6 idx).2 (by decide)

theorem crWr (idx : BitVec 10) (imm : BitVec 16) : Statement (.crWr idx imm) :=
  encodingFitsRow_of (encI_fixed 0x31#6 idx imm).1 rfl rfl (encI_fixed 0x31#6 idx imm).2 (by decide)

end Laws.EncodingFitsRow

end Sys2Proof
end

