-- ==== Sys2Proof/Laws/Step.lean ====
section
/-! SUPPORT. What one step can do, said once. -/

namespace Sys2Proof.Machine

/-- The state a step serves its event on: the event is taken from the port. -/
theorem Ports.takeEvent_cons {p : Ports} {e : HostEvent} {rest : List HostEvent} (h : p.cmdIn = e :: rest) :
    p.takeEvent = { p with cmdIn := rest } := by
  simp [Ports.takeEvent, h]

/-- A step with a legal configuration and a waiting event serves that event. -/
theorem step_event {s : State} {e : HostEvent} {rest : List HostEvent} (hl : s.cfg.Legal)
    (hc : s.ports.cmdIn = e :: rest) : step s = serveEvent e (s.setPorts s.ports.takeEvent) := by
  simp only [step, serve, if_pos hl, hc]

/-- Everything a step that answers a next state can have done: idled; run a decoded command; refused an illegal word;
reset; or reset during a word that itself answers. -/
theorem step_cases {s t : State} (h : step s = .next t) :
    s.cfg.Legal ∧
    ((s.ports.cmdIn = [] ∧ t = s) ∨
     (∃ e rest, s.ports.cmdIn = e :: rest ∧
       ((∃ w i, e = .command w ∧ decode w = .command i ∧ exec i (s.setPorts s.ports.takeEvent) = .next t) ∨
        (∃ w why, e = .command w ∧ decode w = .illegal why ∧ t = (s.setPorts s.ports.takeEvent).answer 7 0) ∨
        (e = .reset ∧ t = (s.setPorts s.ports.takeEvent).resetNow) ∨
        (∃ w u, e = .resetDuring w ∧ runWord w (s.setPorts s.ports.takeEvent) = .next u ∧
          t = (s.setPorts s.ports.takeEvent).resetNow.setPorts (s.ports.takeEvent.abort u.ports))))) := by
  by_cases hl : s.cfg.Legal
  · refine ⟨hl, ?_⟩
    cases hc : s.ports.cmdIn with
    | nil =>
      simp only [step, serve, if_pos hl, hc] at h
      exact .inl ⟨rfl, by cases h; rfl⟩
    | cons e rest =>
      rw [step_event hl hc] at h
      refine .inr ⟨e, rest, rfl, ?_⟩
      cases e with
      | command w =>
        simp only [serveEvent, runWord] at h
        cases hd : decode w with
        | command i => rw [hd] at h; exact .inl ⟨w, i, rfl, hd, h⟩
        | illegal why =>
          rw [hd] at h
          exact .inr (.inl ⟨w, why, rfl, hd, by cases h; rfl⟩)
      | reset => exact .inr (.inr (.inl ⟨rfl, by cases h; rfl⟩))
      | resetDuring w =>
        simp only [serveEvent, abortWord] at h
        cases hr : runWord w (s.setPorts s.ports.takeEvent) with
        | next u => rw [hr] at h; exact .inr (.inr (.inr ⟨w, u, rfl, hr, by cases h; rfl⟩))
        | fault r => rw [hr] at h; cases h
        | refused r => rw [hr] at h; cases h
  · simp [step, serve, hl] at h

end Sys2Proof.Machine
end

