-- ==== Sys2Proof/Machine/Assembler.lean ====
section
/-! DEFINITION. The assembler syntax and the pseudo-commands (30_encoding.md R89, R90): a line of text to its command
words. These are conveniences beside the machine; nothing in the HBSC reads text. DESIGN CHOICE, log entry 20. -/

namespace Sys2Proof.Machine

/-- The widths of a format's operands, in the order they are written: from bit 25 down (30_encoding.md R81, R89). -/
def formatWidths : Format → List Nat
  | .N => []
  | .X => [10]
  | .V => [10, 10]
  | .H => [10, 10, 6]
  | .B => [8]
  | .T => [10, 8, 8]
  | .P => [10, 8]
  | .A => [7, 7, 7]
  | .I => [10, 16]

/-- The word of a format with its operands in place (30_encoding.md R81). -/
def formatWord (op : BitVec 6) : Format → List Nat → Option Word
  | .N, [] => some (encN op)
  | .X, [i] => some (encX op (BitVec.ofNat 10 i))
  | .V, [i, v] => some (encV op (BitVec.ofNat 10 i) (BitVec.ofNat 10 v))
  | .H, [c, p, t] => some (encH op (BitVec.ofNat 10 c) (BitVec.ofNat 10 p) (BitVec.ofNat 6 t))
  | .B, [b] => some (encB op (BitVec.ofNat 8 b))
  | .T, [p, a, b] => some (encT op (BitVec.ofNat 10 p) (BitVec.ofNat 8 a) (BitVec.ofNat 8 b))
  | .P, [p, b] => some (encP op (BitVec.ofNat 10 p) (BitVec.ofNat 8 b))
  | .A, [h, m, l] => some (encA op (BitVec.ofNat 7 h) (BitVec.ofNat 7 m) (BitVec.ofNat 7 l))
  | .I, [i, v] => some (encI op (BitVec.ofNat 10 i) (BitVec.ofNat 16 v))
  | _, _ => none

/-- An operand as written: a number, a number with a leading minus, or a control register's name (30_encoding.md R89). The
minus is kept as written, so that `-0` is not the same operand as `0` (DESIGN CHOICE, log entry 20). -/
inductive AsmOperand where
  | num (n : Nat)
  | neg (n : Nat)
  | reg (r : Nat)
  deriving DecidableEq, Repr

/-- The value an operand puts into its field: a number that fits; one with a leading minus only as PD_UPDATE's immediate,
down to -32768, and so `-0` there alone (DESIGN CHOICE, log entry 20); a register name only as the register operand of
CR_RD and CR_WR (30_encoding.md R89). -/
def operandValue (m : Mnemonic) (position width : Nat) : AsmOperand → Option Nat
  | .num n => if n < 2 ^ width then some n else none
  | .neg n => if m = .pdUpdate ∧ position = 1 ∧ n ≤ 32768 then some ((65536 - n) % 65536) else none
  | .reg r => if (m = .crRd ∨ m = .crWr) ∧ position = 0 then some r else none

/-- The values of a line's operands, refused if their number is not the format's. -/
def operandValues (m : Mnemonic) : Nat → List Nat → List AsmOperand → Option (List Nat)
  | _, [], [] => some []
  | k, w :: ws, o :: os =>
    match operandValue m k w o, operandValues m (k + 1) ws os with
    | some v, some vs => some (v :: vs)
    | _, _ => none
  | _, _, _ => none

/-- The opcode of a mnemonic, from its row of 30_encoding.md R84. -/
def mnemonicOp (m : Mnemonic) : Option (BitVec 6) := (opcodeMap.find? (fun r => r.mnemonic = m)).map (·.op)

/-- One command line to its word (30_encoding.md R89). -/
def assemble (m : Mnemonic) (os : List AsmOperand) : Option Word :=
  match mnemonicOp m, operandValues m 0 (formatWidths m.format) os with
  | some op, some vs => formatWord op m.format vs
  | _, _ => none

/-! ## Pseudo-commands -/

/-- The six pseudo-commands of 30_encoding.md R90. RX_MSG and CS_SUM name at least one byte. -/
inductive Pseudo where
  | rxMsg (first : BitVec 8) (rest : List (BitVec 8))
  | csSum (first : BitVec 8) (rest : List (BitVec 8))
  | sendDt1 (p : BitVec 10) (h m l : BitVec 7) (v : BitVec 8)
  | sendRq1 (ah am al sh sm sl : BitVec 7)
  | setChannel (n : BitVec 16)
  | anReadn (ch : BitVec 10) (k : Nat)
  deriving DecidableEq, Repr

/-- The expansion of a pseudo-command, in order; it has no meaning beyond it (30_encoding.md R90). -/
def Pseudo.expand : Pseudo → List Instr
  | .rxMsg b bs => (b :: bs).map .rxByte
  | .csSum b bs => .csClr :: (b :: bs).map .csAdd
  | .sendDt1 p h m l v => [.txSeta h m l, .txDt1 p v]
  | .sendRq1 ah am al sh sm sl => [.txSeta ah am al, .txSets sh sm sl, .txRq1]
  | .setChannel n => [.crWr 0 n]
  | .anReadn ch k => List.replicate k (.anRead ch)

/-- A number operand of a pseudo-command, inside a field of the given width; none may carry a minus, `-0` included
(DESIGN CHOICE, log entry 20). -/
def fieldOf (width : Nat) : AsmOperand → Option (BitVec width)
  | .num n => if n < 2 ^ width then some (BitVec.ofNat width n) else none
  | .neg _ => none
  | .reg _ => none

/-- Number operands that are all bytes. -/
def bytesOf : List AsmOperand → Option (List (BitVec 8))
  | [] => some []
  | o :: os =>
    match fieldOf 8 o, bytesOf os with
    | some b, some bs => some (b :: bs)
    | _, _ => none

/-- A pseudo-command line by its name and operands (30_encoding.md R90). -/
def pseudoOf (name : List Char) (os : List AsmOperand) : Option Pseudo :=
  if name = "RX_MSG".toList then
    match bytesOf os with
    | some (b :: bs) => some (.rxMsg b bs)
    | _ => none
  else if name = "CS_SUM".toList then
    match bytesOf os with
    | some (b :: bs) => some (.csSum b bs)
    | _ => none
  else if name = "SEND_DT1".toList then
    match os with
    | [p, h, m, l, v] => do
      return .sendDt1 (← fieldOf 10 p) (← fieldOf 7 h) (← fieldOf 7 m) (← fieldOf 7 l) (← fieldOf 8 v)
    | _ => none
  else if name = "SEND_RQ1".toList then
    match os with
    | [ah, am, al, sh, sm, sl] => do
      return .sendRq1 (← fieldOf 7 ah) (← fieldOf 7 am) (← fieldOf 7 al) (← fieldOf 7 sh) (← fieldOf 7 sm)
        (← fieldOf 7 sl)
    | _ => none
  else if name = "SET_CHANNEL".toList then
    match os with
    | [n] => do return .setChannel (← fieldOf 16 n)
    | _ => none
  else if name = "AN_READN".toList then
    match os with
    | [ch, .num k] => do return .anReadn (← fieldOf 10 ch) k
    | _ => none
  else none

/-! ## Text -/

/-- The mnemonics as they are written, in the order of 30_encoding.md R84. -/
def mnemonicNames : List (List Char × Mnemonic) :=
  [("NOP".toList, .nop),
   ("AN_READ".toList, .anRead),
   ("AN_GET".toList, .anGet),
   ("AN_CHANGED".toList, .anChanged),
   ("AN_CAL".toList, .anCal),
   ("AN_CALRD".toList, .anCalrd),
   ("SM_UPDATE".toList, .smUpdate),
   ("SM_RESET".toList, .smReset),
   ("NORM".toList, .norm),
   ("HYST".toList, .hyst),
   ("BT_POLL".toList, .btPoll),
   ("BT_STATE".toList, .btState),
   ("BT_PRESSED".toList, .btPressed),
   ("BT_RELEASED".toList, .btReleased),
   ("RX_BYTE".toList, .rxByte),
   ("RX_RD".toList, .rxRd),
   ("RX_DT1".toList, .rxDt1),
   ("CS_CLR".toList, .csClr),
   ("CS_ADD".toList, .csAdd),
   ("CS_GEN".toList, .csGen),
   ("CS_VER".toList, .csVer),
   ("TX_CC".toList, .txCc),
   ("TX_PC".toList, .txPc),
   ("TX_DT1".toList, .txDt1),
   ("TX_RQ1".toList, .txRq1),
   ("TX_SETA".toList, .txSeta),
   ("TX_SETS".toList, .txSets),
   ("PD_UPDATE".toList, .pdUpdate),
   ("PD_GET".toList, .pdGet),
   ("PD_PREV".toList, .pdPrev),
   ("CR_RD".toList, .crRd),
   ("CR_WR".toList, .crWr)]

/-- The control registers' names, in the order of their numbers (30_encoding.md R89). -/
def registerNames : List (List Char) :=
  ["CHANNEL".toList, "MFR_ID".toList, "MODEL_ID".toList, "HYST_T".toList, "RXSTAT".toList, "CSUMR".toList,
   "TXAR".toList, "TXSR".toList]

/-- Space, tab and carriage return. -/
def isBlank (c : Char) : Bool := c == ' ' || c == '\t' || c == '\r'

/-- Text without the blanks at its ends. -/
def trimmed (cs : List Char) : List Char := ((cs.dropWhile isBlank).reverse.dropWhile isBlank).reverse

/-- A digit's value in base 16. -/
def digitValue (c : Char) : Option Nat :=
  if '0' ≤ c ∧ c ≤ '9' then some (c.toNat - '0'.toNat)
  else if 'a' ≤ c ∧ c ≤ 'f' then some (c.toNat - 'a'.toNat + 10)
  else if 'A' ≤ c ∧ c ≤ 'F' then some (c.toNat - 'A'.toNat + 10)
  else none

/-- Digits of a base onto an accumulator. -/
def digits (base : Nat) : Nat → List Char → Option Nat
  | acc, [] => some acc
  | acc, c :: cs =>
    match digitValue c with
    | some d => if d < base then digits base (acc * base + d) cs else none
    | none => none

/-- A number: decimal, or hexadecimal with a 0x in front (30_encoding.md R89). -/
def number : List Char → Option Nat
  | [] => none
  | '0' :: 'x' :: c :: cs => digits 16 0 (c :: cs)
  | cs => digits 10 0 cs

/-- An operand: a number, a number with a leading minus, or a control register's name (30_encoding.md R89). No blank stands
between the minus and its number (DESIGN CHOICE, log entry 20). -/
def operand (cs : List Char) : Option AsmOperand :=
  match registerNames.findIdx? (· = cs) with
  | some r => some (.reg r)
  | none =>
    match cs with
    | '-' :: ds => (number ds).map .neg
    | ds => (number ds).map .num

/-- The operands of a line, separated by commas. -/
def operands (cs : List Char) : Option (List AsmOperand) :=
  if cs = [] then some [] else (cs.splitOn ',').mapM fun o => operand (trimmed o)

/-- One line of assembler text to its command words: a comment starts at a semicolon, an empty line has no word, a
command one, a pseudo-command its expansion's (30_encoding.md R89, R90). -/
def asmLine (text : List Char) : Option (List Word) :=
  let line := trimmed (text.takeWhile (· ≠ ';'))
  if line = [] then some []
  else
    let name := line.takeWhile fun c => !isBlank c
    match operands (trimmed (line.dropWhile fun c => !isBlank c)) with
    | none => none
    | some os =>
      match mnemonicNames.find? (fun x => x.1 = name) with
      | some (_, m) => (assemble m os).map ([·])
      | none => (pseudoOf name os).map fun p => p.expand.map encode

/-- A text of several lines. -/
def asmText (text : List Char) : Option (List Word) := ((text.splitOn '\n').mapM asmLine).map List.flatten

end Sys2Proof.Machine
end

