-- ==== Sys2Proof/Tests/Slice0.lean ====
section
/-! SUPPORT. Tests of the model on fixed values: words written out field by field from 30_encoding.md R81 and R84,
ill-formed configurations and operands, one or two single commands per mnemonic with the results the spec's examples and
95_test_vectors.md give, and, for every statement with hypotheses, a concrete case that meets them all. -/

namespace Sys2Proof.Tests

open Sys2Proof Sys2Proof.Machine

/-! ## Decoding: every word written out from R81's fields and R84's opcodes -/

theorem test_decode_nop : decode 0b000000_0000000000_0000000000000000#32 = .command .nop := by decide

theorem test_decode_an_read : decode 0b000001_0000000011_0000000000000000#32 = .command (.anRead 3) := by decide

theorem test_decode_an_get : decode 0b000010_1000000000_0000000000000000#32 = .command (.anGet 512) := by decide

theorem test_decode_an_changed : decode 0b000011_1111111111_0000000000000000#32 = .command (.anChanged 1023) := by decide

theorem test_decode_an_cal : decode 0b000100_0000000000_0000000000000000#32 = .command .anCal := by decide

theorem test_decode_an_calrd : decode 0b000101_0000000001_0000000000000000#32 = .command (.anCalrd 1) := by decide

theorem test_decode_sm_update : decode 0b000110_0000000010_000000_1100100000#32 = .command (.smUpdate 2 800) := by decide

theorem test_decode_sm_reset : decode 0b000111_0000000100_0000000000000000#32 = .command (.smReset 4) := by decide

theorem test_decode_norm : decode 0b001000_0000000001_000000_0111110100#32 = .command (.norm 1 500) := by decide

theorem test_decode_hyst : decode 0b001001_0111110100_0111110011_000010#32 = .command (.hyst 500 499 2) := by decide

theorem test_decode_bt_poll : decode 0b010000_0000000000_0000000000000000#32 = .command .btPoll := by decide

theorem test_decode_bt_state : decode 0b010001_0000000011_0000000000000000#32 = .command (.btState 3) := by decide

theorem test_decode_bt_pressed : decode 0b010010_0000011111_0000000000000000#32 = .command (.btPressed 31) := by decide

theorem test_decode_bt_released : decode 0b010011_0000000100_0000000000000000#32 = .command (.btReleased 4) := by decide

theorem test_decode_rx_byte : decode 0b011000_0000000000_00000000_11110111#32 = .command (.rxByte 0xF7) := by decide

theorem test_decode_rx_rd : decode 0b011001_0000001001_0000000000000000#32 = .command (.rxRd 9) := by decide

theorem test_decode_rx_dt1 : decode 0b011010_0000000000_0000000000000000#32 = .command .rxDt1 := by decide

theorem test_decode_cs_clr : decode 0b011100_0000000000_0000000000000000#32 = .command .csClr := by decide

theorem test_decode_cs_add : decode 0b011101_0000000000_00000000_00010010#32 = .command (.csAdd 0x12) := by decide

theorem test_decode_cs_gen : decode 0b011110_0000000000_0000000000000000#32 = .command .csGen := by decide

theorem test_decode_cs_ver : decode 0b011111_0000000000_00000000_01101101#32 = .command (.csVer 0x6D) := by decide

theorem test_decode_tx_cc : decode 0b100000_0000000001_10000111_11001000#32 = .command (.txCc 1 0x87 200) := by decide

theorem test_decode_tx_pc : decode 0b100001_0000000000_00000000_10000101#32 = .command (.txPc 0x85) := by decide

theorem test_decode_tx_dt1 : decode 0b100010_0000000011_00000000_01000000#32 = .command (.txDt1 3 64) := by decide

theorem test_decode_tx_rq1 : decode 0b100011_0000000000_0000000000000000#32 = .command .txRq1 := by decide

theorem test_decode_tx_seta : decode 0b100100_00000_1000001_0000001_1000000#32 = .command (.txSeta 0x41 1 0x40) := by decide

theorem test_decode_tx_sets : decode 0b100101_00000_0000000_0000010_0000001#32 = .command (.txSets 0 2 1) := by decide

theorem test_decode_pd_update : decode 0b101000_0000000001_1111111111101100#32 = .command (.pdUpdate 1 0xFFEC) := by decide

theorem test_decode_pd_get : decode 0b101001_0000000011_0000000000000000#32 = .command (.pdGet 3) := by decide

theorem test_decode_pd_prev : decode 0b101010_0000000010_0000000000000000#32 = .command (.pdPrev 2) := by decide

theorem test_decode_cr_rd : decode 0b110000_0000000111_0000000000000000#32 = .command (.crRd 7) := by decide

theorem test_decode_cr_wr : decode 0b110001_0000000000_0000000000010000#32 = .command (.crWr 0 16) := by decide

/-- R86 (a): the first and the last unassigned opcode. -/
theorem test_decode_unassigned_opcodes : decode 0x28000000#32 = .illegal .unassignedOpcode ∧
    decode 0xFC000000#32 = .illegal .unassignedOpcode ∧ decode 0x68000000#32 ≠ .illegal .unassignedOpcode := by decide

/-- R86 (b): one reserved bit set, at the edge of the reserved field of each format that has one. -/
theorem test_decode_reserved_bits : decode 0x00000001#32 = .illegal .reservedBits ∧
    decode 0x04008000#32 = .illegal .reservedBits ∧ decode 0x18000400#32 = .illegal .reservedBits ∧
    decode 0x60000100#32 = .illegal .reservedBits ∧ decode 0x88008000#32 = .illegal .reservedBits ∧
    decode 0x90200000#32 = .illegal .reservedBits := by decide

/-- The table numbers a command word's bits as R80 does. -/
theorem test_decode_table_word : decodeTableWord 32 0x04030000 = some (.anRead 3) ∧
    decodeTableWord 32 0x28000000 = none := by decide

/-- R89's examples and R90's pseudo-commands, from their text. -/
theorem test_assembler_examples : asmLine "HYST 500, 499, 2".toList = some [0x25F47CC2] ∧
    asmLine "TX_SETA 0x00, 0x01, 0x40".toList = some [0x900000C0] ∧
    asmLine "CR_WR CHANNEL, 2 ; name".toList = some [0xC4000002] ∧
    asmLine "PD_UPDATE 1, -20".toList = some [0xA001FFEC] := by decide

theorem test_assembler_pseudo : asmLine "SEND_DT1 0, 0, 1, 0x40, 64".toList = some [0x900000C0, 0x88000040] ∧
    asmLine "RX_MSG 0xF0, 0xF7".toList = some [0x600000F0, 0x600000F7] ∧
    asmLine "AN_READN 1, 2".toList = some [0x04010000, 0x04010000] := by decide

/-- Operands that no field can carry, and wrong operand counts, are refused. -/
theorem test_assembler_refuses : asmLine "AN_READ 1024".toList = none ∧ asmLine "RX_BYTE 256".toList = none ∧
    asmLine "HYST 1, 2, 64".toList = none ∧ asmLine "TX_SETA 128, 0, 0".toList = none ∧
    asmLine "AN_READ".toList = none ∧ asmLine "AN_GET -1".toList = none := by decide

/-- R89 gives a leading minus to PD_UPDATE's immediate alone, a minus on zero too (log entry 20). -/
theorem test_assembler_minus : asmLine "PD_UPDATE 1, -0".toList = some [0xA0010000] ∧
    asmLine "PD_UPDATE 1, -32768".toList = some [0xA0018000] ∧ asmLine "PD_UPDATE 1, -32769".toList = none ∧
    asmLine "PD_UPDATE -0, 1".toList = none ∧ asmLine "AN_GET -0".toList = none ∧
    asmLine "CR_WR CHANNEL, -0".toList = none ∧ asmLine "RX_MSG -0".toList = none ∧
    asmLine "AN_READN 0, -0".toList = none := by decide

/-! ## Well-formedness: each check refuses an ill-formed term -/

/-- Also the hypothesis of ResetValuesOfEveryField and ResetHasTheInvariant. -/
theorem test_legal_test_configuration : Cfg.test.Legal := by decide

theorem test_illegal_chips : ¬{ Cfg.test with adcChips := 65 }.Legal := by decide

theorem test_illegal_channels_per_chip : ¬{ Cfg.test with adcCpc := 0 }.Legal := by decide

theorem test_illegal_channel_count : ¬{ Cfg.test with adcChips := 64, adcCpc := 17 }.Legal := by decide

theorem test_illegal_window : ¬{ Cfg.test with smoothN := 0 }.Legal := by decide

theorem test_illegal_cal_samples : ¬{ Cfg.test with calSamples := 65536 }.Legal := by decide

theorem test_illegal_hyst_reset : ¬{ Cfg.test with hystReset := 64 }.Legal := by decide

theorem test_illegal_buttons : ¬{ Cfg.test with btnCount := 33 }.Legal := by decide

theorem test_illegal_debounce : ¬{ Cfg.test with debounceMs := 2 ^ 32 }.Legal := by decide

theorem test_illegal_sysex_max : ¬{ Cfg.test with sysexMax := 6 }.Legal := by decide

theorem test_illegal_param_count : ¬{ Cfg.test with paramCount := 0, pdTable := [] }.Legal := by decide

theorem test_illegal_rate : ¬{ Cfg.test with rateMs := 2 ^ 32 }.Legal := by decide

theorem test_illegal_deadband : ¬{ Cfg.test with pdDeadband := 65536 }.Legal := by decide

theorem test_illegal_table_length : ¬{ Cfg.test with pdTable := [] }.Legal := by decide

theorem test_illegal_table_entries : ¬PdEntry.Legal ⟨-32769, 0, 0, 0⟩ ∧ ¬PdEntry.Legal ⟨1, 0, 0, 1⟩ ∧
    ¬PdEntry.Legal ⟨0, 32768, 0, 0⟩ ∧ ¬PdEntry.Legal ⟨0, 9, 0, -1⟩ ∧ ¬PdEntry.Legal ⟨0, 9, 0, 10⟩ ∧
    ¬PdEntry.Legal ⟨0, 9, 65537, 0⟩ := by decide

theorem test_illegal_table : ¬{ Cfg.test with paramCount := 1, pdTable := [⟨1, 0, 0, 1⟩] }.Legal := by decide

/-- One index past the end of each index space of 20_memory.md R60, and the last one inside it. -/
theorem test_ill_formed_indices : (Instr.anRead 2).wellFormed Cfg.test 0 = false ∧
    (Instr.btState 4).wellFormed Cfg.test 0 = false ∧ (Instr.rxRd 11).wellFormed Cfg.test 11 = false ∧
    (Instr.pdGet 4).wellFormed Cfg.test 0 = false ∧ (Instr.crRd 8).wellFormed Cfg.test 0 = false := by decide

theorem test_well_formed_indices : (Instr.anRead 1).wellFormed Cfg.test 0 = true ∧
    (Instr.btState 3).wellFormed Cfg.test 0 = true ∧ (Instr.rxRd 10).wellFormed Cfg.test 11 = true ∧
    (Instr.pdGet 3).wellFormed Cfg.test 0 = true ∧ (Instr.crRd 7).wellFormed Cfg.test 0 = true ∧
    Instr.anCal.wellFormed Cfg.test 0 = true := by decide

/-! ## Single commands

The states are the reset state of the test configuration (92_eei_decisions.md D49) with a field or two set. -/

/-- A value read from a next state; none where there is none. -/
def got {α : Type} (f : State → α) : Host.Outcome State Fault Refusal → Option α
  | .next t => some (f t)
  | _ => none

/-- RSTAT and RDATA. -/
def result (t : State) : Nat × Nat := (t.rstat.toNat, t.rdata.toNat)

/-- The reset state with these samples, pin vectors and times listed at the input ports. -/
def inputs (adc : List (BitVec 10)) (pins now : List (BitVec 32)) : State :=
  State.reset.setPorts { Ports.idle with adcIn := adc, pinsIn := pins, nowIn := now }

/-- Channel 1 calibrated to (200, 800), with the value 125 cached and flagged. -/
def calibrated : State :=
  State.reset.setChan 1 { Channel.atReset 8 with calMin := 200, calMax := 800, anVal := 125, anChg := true }

/-- The message of 42_serial.md R163's example. -/
def dataSet : List (BitVec 8) := [0xF0, 0x41, 0x00, 0x14, 0x12, 0x00, 0x01, 0x40, 0x40, 0x6D, 0xF7]

/-- The reset state with the first ten bytes of that message accumulated. -/
def receiving : State := State.reset.setFramer true 10 (dataSet.take 10 ++ List.replicate 6 0)

/-- The reset state with that message latched. -/
def latched : State := State.reset.setLatch true 11 (dataSet ++ List.replicate 5 0)

/-- The reset state with button 0 replaced. -/
def withButton (b : Button) (pins now : List (BitVec 32)) : State :=
  (inputs [] pins now).setButtons (b :: List.replicate 3 Button.atReset)

theorem test_nop : got result (exec .nop (State.reset.answer 3 7)) = some (0, 0) := by decide

/-- R110's example: 1000 div 8 = 125. -/
theorem test_an_read : got result (exec (.anRead 0) (inputs [1000] [] [])) = some (0, 125) ∧
    got (fun t => ((t.chan 0).anVal, (t.chan 0).anChg)) (exec (.anRead 0) (inputs [1000] [] [])) =
      some (125, true) := by decide

/-- R101 and R68: one transfer, to the channel's pair; a bad index makes none. -/
theorem test_an_read_port : got (·.ports.adcLog) (exec (.anRead 1) (inputs [0] [] [])) = some [⟨0, 1⟩] ∧
    got id (exec (.anRead 2) State.reset) = some (State.reset.answer 8 0) := by decide

theorem test_an_get : got result (exec (.anGet 1) calibrated) = some (0, 125) := by decide

theorem test_an_changed : got result (exec (.anChanged 1) calibrated) = some (0, 1) ∧
    got (fun t => (t.chan 1).anChg) (exec (.anChanged 1) calibrated) = some false := by decide

/-- R116's example. -/
theorem test_an_cal : got (fun t => ((t.chan 0).calMin, (t.chan 0).calMax, (t.chan 1).calMin, (t.chan 1).calMax))
    (exec .anCal (inputs [0, 1000, 200, 800] [] [])) = some (0, 1000, 200, 800) := by decide

/-- R117's example, and the uncalibrated marker. -/
theorem test_an_calrd : got result (exec (.anCalrd 1) calibrated) = some (0, 0x032000C8) ∧
    got result (exec (.anCalrd 0) calibrated) = some (0, 0x3FF) := by decide

theorem test_sm_update : got result (exec (.smUpdate 0 800) State.reset) = some (0, 100) ∧
    got (fun t => ((t.chan 0).smSum, (t.chan 0).smIdx, (t.chan 0).anChg)) (exec (.smUpdate 0 800) State.reset) =
      some (800, 1, false) := by decide

theorem test_sm_reset : got (fun t => t.chan 0) (exec (.smReset 0) (State.reset.setChan 0
    { Channel.atReset 8 with smBuf := [800, 0, 0, 0, 0, 0, 0, 0], smSum := 800, smIdx := 1, calMax := 5 })) =
      some { Channel.atReset 8 with calMax := 5 } := by decide

/-- R115's example, and the range's two ends. -/
theorem test_norm : got result (exec (.norm 1 500) calibrated) = some (0, 511) ∧
    got result (exec (.norm 1 200) calibrated) = some (0, 0) ∧
    got result (exec (.norm 1 800) calibrated) = some (0, 1023) := by decide

/-- R104 with `lo == hi`: the identity (90_conflicts.md C1). -/
theorem test_norm_identity : got result (exec (.norm 0 700)
    (State.reset.setChan 0 { Channel.atReset 8 with calMin := 500, calMax := 500 })) = some (0, 700) := by decide

/-- R118's examples. -/
theorem test_hyst : got result (exec (.hyst 500 499 2) State.reset) = some (0, 499) ∧
    got result (exec (.hyst 500 498 2) State.reset) = some (0, 500) ∧
    got result (exec (.hyst 0 1023 63) State.reset) = some (0, 0) := by decide

/-- R144's example, first poll: pin 0 low at time 0. -/
theorem test_bt_poll_first : got (fun t => (t.rdata, t.button 0)) (exec .btPoll (inputs [] [0xE] [0])) =
    some (0, ⟨false, false, true, 0⟩) := by decide

/-- R144's example, second poll: still low at time 5. -/
theorem test_bt_poll_flip : got (fun t => (t.rdata, t.button 0))
    (exec .btPoll (withButton ⟨false, false, true, 0⟩ [0xE] [5])) = some (1, ⟨true, false, false, 0⟩) := by decide

theorem test_bt_state : got result (exec (.btState 0) (withButton ⟨true, true, false, 0⟩ [] [])) = some (0, 1) := by
  decide

theorem test_bt_pressed : got result (exec (.btPressed 0) (withButton ⟨true, false, false, 0⟩ [] [])) = some (0, 1) ∧
    got result (exec (.btPressed 0) (withButton ⟨true, true, false, 0⟩ [] [])) = some (0, 0) := by decide

theorem test_bt_released : got result (exec (.btReleased 0) (withButton ⟨false, true, false, 0⟩ [] [])) = some (0, 1) ∧
    got result (exec (.btReleased 0) (withButton ⟨true, false, false, 0⟩ [] [])) = some (0, 0) := by decide

/-- R163's example: the terminator latches the 11 bytes. -/
theorem test_rx_byte_accepts : got (fun t => (t.rdata, t.msgLen, t.rxInprog)) (exec (.rxByte 0xF7) receiving) =
    some (0x20B, 11, false) ∧ got (fun t => t.msg.take 11) (exec (.rxByte 0xF7) receiving) = some dataSet := by decide

/-- R163: a real-time byte is dispatched and disturbs nothing; a 16th byte that is no terminator resets the framer. -/
theorem test_rx_byte_real_time_and_overflow :
    got id (exec (.rxByte 0xF8) receiving) = some (receiving.answer 0 0x1F8) ∧
    got (fun t => (t.rdata, t.rxInprog, t.rxLen)) (exec (.rxByte 1) (State.reset.setFramer true 15
      (0xF0 :: List.replicate 15 0))) = some (0, false, 0) := by decide

theorem test_rx_rd : got result (exec (.rxRd 9) latched) = some (0, 0x6D) ∧
    got result (exec (.rxRd 11) latched) = some (8, 0) := by decide

theorem test_rx_dt1 : got result (exec .rxDt1 latched) = some (0, 0x00014040) ∧
    got result (exec .rxDt1 State.reset) = some (6, 0) := by decide

theorem test_cs_clr : got (·.csum) (exec .csClr (State.reset.setCsum 5)) = some 0 := by decide

/-- R172's example, its last step; bit 7 is lost in the mask. -/
theorem test_cs_add : got result (exec (.csAdd 0x40) (State.reset.setCsum 0x53)) = some (0, 0x13) ∧
    got result (exec (.csAdd 0x80) (State.reset.setCsum 0x53)) = some (0, 0x53) := by decide

theorem test_cs_gen : got result (exec .csGen (State.reset.setCsum 0x13)) = some (0, 0x6D) ∧
    got result (exec .csGen State.reset) = some (0, 0) := by decide

theorem test_cs_ver : got result (exec (.csVer 0x6D) (State.reset.setCsum 0x13)) = some (0, 1) ∧
    got result (exec (.csVer 0x6C) (State.reset.setCsum 0x13)) = some (5, 0) := by decide

/-- R181's example, and R242's with CHANNEL = 16. -/
theorem test_tx_cc : got (fun t => (t.rdata, t.ports.tx)) (exec (.txCc 0 74 100) (inputs [] [] [0])) =
    some (1, [0xB0, 0x4A, 0x64]) ∧ got (·.ports.tx) (exec (.txCc 1 0x87 200)
      ((inputs [] [] [0]).setChannel 16)) = some [0xBF, 0x07, 0x48] := by decide

/-- R180: a send 9 ms after the last one is suppressed, with RDATA = 0 and no byte. -/
theorem test_tx_cc_suppressed : got (fun t => (result t, t.ports.tx, (t.slot 0).rlLast)) (exec (.txCc 0 74 101)
    ((inputs [] [] [9]).setSlot 0 { State.reset.slot 0 with rlValid := true, rlLast := 0 })) =
      some ((0, 0), [], 0) := by decide

theorem test_tx_pc : got (·.ports.tx) (exec (.txPc 0x85) State.reset) = some [0xC0, 0x05] := by decide

/-- R183's example. -/
theorem test_tx_dt1 : got (fun t => (t.rdata, t.ports.tx)) (exec (.txDt1 0 64)
    ((inputs [] [] [0]).setTxa ⟨0, 1, 0x40⟩)) = some (1, dataSet) := by decide

/-- R184's example. -/
theorem test_tx_rq1 : got (·.ports.tx) (exec .txRq1 ((State.reset.setTxa ⟨0, 1, 0x40⟩).setTxs ⟨0, 0, 1⟩)) =
    some [0xF0, 0x41, 0x00, 0x14, 0x11, 0x00, 0x01, 0x40, 0x00, 0x00, 0x01, 0x2D, 0xF7] := by decide

theorem test_tx_seta : got (·.txa) (exec (.txSeta 1 2 3) State.reset) = some ⟨1, 2, 3⟩ := by decide

theorem test_tx_sets : got (·.txs) (exec (.txSets 1 2 3) State.reset) = some ⟨1, 2, 3⟩ := by decide

/-- R221's example. -/
theorem test_pd_update : got (fun t => (t.rdata, (t.slot 0).pdAcc)) (exec (.pdUpdate 0 100) State.reset) =
    some (0x00010032, 3276800) := by decide

/-- R220: an input outside the slot's range, read as a signed value. -/
theorem test_pd_update_range : got id (exec (.pdUpdate 0 0xFFFF) State.reset) = some (State.reset.answer 3 0) ∧
    got id (exec (.pdUpdate 4 0) State.reset) = some (State.reset.answer 2 0) := by decide

/-- R222's example: a slot holding -14. -/
theorem test_pd_get : got result (exec (.pdGet 1) (State.reset.setSlot 1
    { State.reset.slot 1 with pdVal := 0xFFF2 })) = some (0, 0xFFF2) ∧
    got result (exec (.pdGet 2) State.reset) = some (0, 64) := by decide

theorem test_pd_prev : got result (exec (.pdPrev 1) (State.reset.setSlot 1
    { State.reset.slot 1 with pdVal := 7, pdPrev := 5 })) = some (0, 5) := by decide

/-- R241's example value of RXSTAT, and TXAR after R185's example. -/
theorem test_cr_rd : got result (exec (.crRd 4) (State.reset.setFramer true 3 (List.replicate 16 0))) =
    some (0, 0x301) ∧ got result (exec (.crRd 6) (State.reset.setTxa ⟨0, 1, 0x40⟩)) = some (0, 0xC0) := by decide

/-- R242: 16 is the last legal channel; 17 is refused and a read-only register is ILLEGAL_CMD. -/
theorem test_cr_wr : got (·.channel) (exec (.crWr 0 16) State.reset) = some 16 ∧
    got id (exec (.crWr 0 17) State.reset) = some (State.reset.answer 1 0) ∧
    got id (exec (.crWr 4 0) State.reset) = some (State.reset.answer 7 0) := by decide

/-- A presented word is the next command; an undecodable one is ILLEGAL_CMD; an idle block keeps its state. -/
theorem test_step : got result (step (State.reset.withFetchWord 32 0xC0010000)) = some (0, 0x41) ∧
    got result (step (State.reset.withFetchWord 32 0x28000000)) = some (7, 0) ∧
    got id (step State.reset) = some State.reset := by decide

theorem test_step_reset : got (fun t => (t.csum, t.ports.tx)) (step ((State.reset.setCsum 5).setPorts
    { Ports.idle with cmdIn := [.reset], tx := [0xC0, 1] })) = some (0, [0xC0, 1]) := by decide

/-! ## Witnesses: a case that meets the hypotheses of each statement of Certificates/Slice0/Obligations.lean

Each is named after its statement. Where a statement has several clauses, the case or cases stand at their boundaries:
the last index inside and the first outside, the last value a check accepts and the first it refuses. -/

theorem test_inv_reset : State.reset.Inv :=
  ⟨by decide, by decide, by decide, by decide, by decide, by decide, by decide, by decide, by decide, by decide,
    by decide, by decide⟩

theorem test_inv_receiving : receiving.Inv :=
  ⟨by decide, by decide, by decide, by decide, by decide, by decide, by decide, by decide, by decide, by decide,
    by decide, by decide⟩

theorem test_inv_latched : latched.Inv :=
  ⟨by decide, by decide, by decide, by decide, by decide, by decide, by decide, by decide, by decide, by decide,
    by decide, by decide⟩

theorem test_inv_inputs : (inputs [1000, 0, 7] [0xE] [0, 9, 10]).Inv :=
  ⟨by decide, by decide, by decide, by decide, by decide, by decide, by decide, by decide, by decide, by decide,
    by decide, by decide⟩

theorem test_witness_decoded_word_is_its_encoding : decode 0x25F47CC2#32 = .command (.hyst 500 499 2) := by decide

theorem test_witness_illegal_words : decode 0x28000000#32 = .illegal .unassignedOpcode ∧
    decode 0x00000001#32 = .illegal .reservedBits := by decide

/-- The word 0x04000000 decodes (first clause); 0x28000000 does not (second clause). -/
theorem test_witness_step_runs_the_decoded_command :
    (State.reset.withFetchWord 32 0x04000000).cfg.Legal ∧
    (State.reset.withFetchWord 32 0x04000000).ports.cmdIn = .command 0x04000000 :: [] ∧
    decode 0x04000000#32 = .command (.anRead 0) ∧
    (State.reset.withFetchWord 32 0x28000000).ports.cmdIn = .command 0x28000000 :: [] ∧
    decode 0x28000000#32 = .illegal .unassignedOpcode := by decide

theorem test_witness_step_idles_and_refuses : State.reset.cfg.Legal ∧ State.reset.ports.cmdIn = [] ∧
    ¬(State.resetOf { Cfg.test with sysexMax := 6 }).cfg.Legal := by decide

theorem test_witness_reset_restores : Cfg.test.Legal ∧
    (State.reset.setPorts { Ports.idle with cmdIn := [.reset, .command 0] }).ports.cmdIn =
      .reset :: [.command 0] := by decide

theorem test_witness_reset_values : Cfg.test.Legal ∧ 3 < Cfg.test.paramCount ∧ Cfg.test.hystReset = 2 := by decide

/-- TX_PC 5 interrupted. -/
theorem test_witness_reset_during_a_command : Cfg.test.Legal ∧
    (State.reset.setPorts { Ports.idle with cmdIn := [.resetDuring 0x84000005] }).ports.cmdIn =
      .resetDuring 0x84000005 :: [] ∧
    got (·.ports.tx) (runWord 0x84000005 State.reset) = some [0xC0, 5] := by decide

theorem test_witness_nop_only_answers : opField 0x00000001#32 = 0 ∧ opField 0x03FFFFFF#32 = 0 := by decide

theorem test_witness_cr_rd : 7 < (8#10).toNat ∧ 7 < (1023#10).toNat := by decide

theorem test_witness_cr_wr : 7 < (8#10).toNat ∧ (4 ≤ (4#10).toNat ∧ (4#10).toNat ≤ 7) ∧
    (4 ≤ (7#10).toNat ∧ (7#10).toNat ≤ 7) := by decide

theorem test_witness_cr_reads_back : got (·.rstat) (exec (.crWr 3 63) State.reset) = some 0 ∧
    got (·.rstat) (exec (.crWr 0 16) State.reset) = some 0 := by decide

/-- A window of one sample, and the full window of the test configuration at its last index. -/
theorem test_witness_smoothing : (Channel.atReset 1).Inv 1 ∧
    Channel.Inv 8 { Channel.atReset 8 with smBuf := [0, 0, 0, 0, 0, 0, 0, 1023], smSum := 1023, smIdx := 7 } := by
  decide

/-- Channel 1 is the last of the test configuration and channel 2 the first outside it: the two clauses of
SmUpdateAndSmResetActOnOneSmoother, AnReadConditionsOneSample, AnalogReadCommandsReturnTheirField and
NormRescalesTheCalibratedRange. -/
theorem test_witness_channel_clauses : (1#10).toNat < State.reset.cfg.numCh ∧
    State.reset.cfg.numCh ≤ (2#10).toNat := by decide

theorem test_witness_change_flag : State.reset.Inv ∧ (1#10).toNat < State.reset.cfg.numCh ∧
    ∀ i ∈ [Instr.anGet 1, Instr.smUpdate 1 9], ∀ k, i ≠ .anRead k :=
  ⟨test_inv_reset, by decide, by simp⟩

theorem test_witness_calibration_widens : (inputs [1000, 0, 7] [0xE] [0, 9, 10]).Inv ∧
    (∀ s : State, s = State.reset.setPorts { Ports.idle with adcIn := [0, 1000, 200, 800, 5] } →
      s.ports.adcIn = [0, 1000, 200, 800] ++ [5] ∧
      [0, 1000, 200, 800].length = s.cfg.numCh * s.cfg.calSamples) :=
  ⟨test_inv_inputs, by rintro s rfl; decide⟩

theorem test_witness_normalization_is_monotone : (calibrated.chan 1).calMin.toNat < (calibrated.chan 1).calMax.toNat ∧
    (499#10).toNat ≤ (500#10).toNat := by decide

theorem test_witness_smoother_converges : State.reset.Inv ∧ (1#10).toNat < State.reset.cfg.numCh :=
  ⟨test_inv_reset, by decide⟩

theorem test_witness_smoother_ramps : 1 ≤ 8 ∧ 8 ≤ 1024 ∧ [500#10, 501, 502].length ≤ 8 ∧
    (Channel.atReset 8).smBuf = List.replicate 8 0 ∧ (Channel.atReset 8).smSum = 0 ∧
    (Channel.atReset 8).smIdx = 0 := by decide

/-- A difference at the poll of time 0, seen again at times 4 (not yet accepted) and 5 (accepted). -/
theorem test_witness_debounce : true ≠ Button.atReset.st ∧
    (4#32 - (Button.debounce ⟨false, false, true, 0⟩ 5 true 4).tchg).toNat < 5 ∧
    5 ≤ (5#32 - (Button.debounce ⟨false, false, true, 0⟩ 5 true 5).tchg).toNat ∧ false = Button.atReset.st := by decide

theorem test_witness_bt_poll : (inputs [1000, 0, 7] [0xE] [0, 9, 10]).Inv ∧
    3 < (inputs [1000, 0, 7] [0xE] [0, 9, 10]).cfg.btnCount := ⟨test_inv_inputs, by decide⟩

theorem test_witness_button_clauses : (3#10).toNat < State.reset.cfg.btnCount ∧
    State.reset.cfg.btnCount ≤ (4#10).toNat := by decide

theorem test_witness_no_flip : Button.atReset.pend = false ∧ 5 < 2 ^ 32 ∧
    [(true, 0), (false, 2), (true, 4)].Pairwise (fun x y => x.2 ≤ y.2) ∧
    ∀ x ∈ [(true, 0), (false, 2), (true, 4)], x.2 < 5 := by decide

theorem test_witness_a_held_level_flips : Button.atReset.pend = false ∧ 0 < 5 ∧ 5 ≤ 5 ∧ 5 < 2 ^ 32 ∧
    ∀ d ∈ [1, 4], d < 5 := by decide

/-- Every branch: a real-time byte, Idle, a terminator that validates and one that does not, the 16th byte, and a byte
with room left. -/
theorem test_witness_rx_byte : State.reset.Inv ∧ receiving.Inv ∧ 0xF8 ≤ (0xF8#8).toNat ∧
    State.reset.rxInprog = false ∧ receiving.rxInprog = true ∧
    validate (receiving.rxBuf.set receiving.rxLen.toNat 0xF7) (receiving.rxLen.toNat + 1) = true ∧
    validate ((State.reset.setFramer true 1 (0xF0 :: List.replicate 15 0)).rxBuf.set 1 0xF7) 2 = false ∧
    15 + 1 = State.reset.cfg.sysexMax ∧ receiving.rxLen.toNat + 1 < receiving.cfg.sysexMax :=
  ⟨test_inv_reset, test_inv_receiving, by decide⟩

theorem test_witness_validation : 11 ≤ dataSet.length ∧ validate dataSet 11 = true := by decide

theorem test_witness_checksum_functions : ([0x80#8].map BitVec.toNat).sum % 128 = 0 ∧ 7 ≤ dataSet.length ∧
    4 < dataSet.length - 6 := by decide

theorem test_witness_emitted_data_set : State.reset.Inv ∧ State.reset.rxInprog = false ∧
    11 ≤ State.reset.cfg.sysexMax := ⟨test_inv_reset, by decide⟩

theorem test_witness_emitted_data_request : State.reset.Inv ∧ State.reset.rxInprog = false ∧
    13 ≤ State.reset.cfg.sysexMax := ⟨test_inv_reset, by decide⟩

/-- The first and the last byte of the checksum range (4 and 8) and the last byte before it (3). -/
theorem test_witness_one_changed_data_byte : 11 ≤ dataSet.length ∧ validate dataSet 11 = true ∧
    (4 ≤ 8 ∧ 8 ≤ 11 - 3 ∧ (dataSet.getD 8 0).toNat < 128 ∧ (0x41#8).toNat < 128 ∧ 0x41#8 ≠ dataSet.getD 8 0) ∧
    (dataSet.getD 4 0).toNat < 128 ∧ (0x11#8).toNat < 128 ∧ 0x11#8 ≠ dataSet.getD 4 0 ∧ 3 < 4 := by decide

/-- Slot 3 is the last of the test configuration and slot 4 the first outside it, with CHANNEL in range: the two clauses of
TxCcSendsOrIsSuppressed, TxDt1SendsOrIsSuppressed and PdGetAndPdPrevReturnTheSlot, and the hypotheses of
TxPcEmitsAndTheStagingRegistersLoad and TxRq1EmitsTheDataRequest. -/
theorem test_witness_slot_clauses : 1 ≤ State.reset.channel.toNat ∧ State.reset.channel.toNat ≤ 16 ∧
    (3#10).toNat < State.reset.cfg.paramCount ∧ State.reset.cfg.paramCount ≤ (4#10).toNat := by decide

/-- A send at 0, and then the two clauses: the next time input is 9, or 10. -/
theorem test_witness_sends_share_a_window : (inputs [1000, 0, 7] [0xE] [0, 9, 10]).Inv ∧
    (3#10).toNat < (inputs [] [] [0, 9]).cfg.paramCount ∧
    got (fun t => (t.rdata, (t.ports.now - 0).toNat)) (exec (.txCc 3 74 100) (inputs [] [] [0, 9])) = some (1, 9) ∧
    got (fun t => (t.rdata, (t.ports.now - 0).toNat)) (exec (.txCc 3 74 100) (inputs [] [] [0, 10])) = some (1, 10) :=
  ⟨test_inv_inputs, by decide⟩

/-- Slot 0 accepts 0 to 100: 100 is in, 101 and -1 are out; 4 is no slot. -/
theorem test_witness_pd_update : State.reset.Inv ∧ (0#10).toNat < State.reset.cfg.paramCount ∧
    State.reset.cfg.paramCount ≤ (4#10).toNat ∧ (State.reset.cfg.pd 0).max < (101#16).toInt ∧
    (0xFFFF#16).toInt < (State.reset.cfg.pd 0).min ∧
    ((State.reset.cfg.pd 0).min ≤ (100#16).toInt ∧ (100#16).toInt ≤ (State.reset.cfg.pd 0).max) :=
  ⟨test_inv_reset, by decide⟩

/-- An accumulator at the top of the range with the input at the bottom, and the other way round. -/
theorem test_witness_pd_filter_stays_in_range : PdEntry.Legal ⟨0, 100, 32768, 0⟩ ∧
    (let x : Slot := ⟨false, 0, BitVec.ofInt 32 6553600, 0, 0⟩;
      0 * 65536 ≤ x.pdAcc.toInt ∧ x.pdAcc.toInt ≤ 100 * 65536 ∧ 0 * 65536 ≤ x.pdAcc.toInt) ∧
    (let x : Slot := ⟨false, 0, 0, 0, 0⟩;
      0 * 65536 ≤ x.pdAcc.toInt ∧ x.pdAcc.toInt ≤ 100 * 65536 ∧ x.pdAcc.toInt ≤ 100 * 65536) := by decide

theorem test_witness_pd_filter_settles : PdEntry.Legal ⟨0, 100, 2, 0⟩ ∧ 0 < 2 ∧ (0 : Int) ≤ 50 ∧ (50 : Int) ≤ 100 ∧
    (let x : Slot := ⟨false, 0, BitVec.ofInt 32 6553600, 0, 0⟩;
      x.pdAcc.toInt ≤ 100 * 65536 ∧ 50 * 65536 ≤ x.pdAcc.toInt) ∧
    (let x : Slot := ⟨false, 0, 0, 0, 0⟩;
      0 * 65536 ≤ x.pdAcc.toInt ∧ x.pdAcc.toInt < 50 * 65536) := by decide

theorem test_witness_errors : got id (exec .rxDt1 State.reset) = some (State.reset.answer 6 0) ∧
    (State.reset.answer 6 0).rstat ≠ 0 := by decide

/-- The first index outside each of the five spaces. -/
theorem test_witness_bad_indices : (Instr.anGet 2).index = some (.channel, 2) ∧
    IndexSpace.size Cfg.test 0 .channel ≤ 2 ∧ IndexSpace.size Cfg.test 0 .button ≤ 4 ∧
    IndexSpace.size Cfg.test 11 .message ≤ 11 ∧ IndexSpace.size Cfg.test 0 .slot ≤ 4 ∧
    IndexSpace.size Cfg.test 0 .register ≤ 8 := by decide

theorem test_witness_pure_reads : (Instr.crRd 0).mnemonic ∈ [Mnemonic.nop, .crRd] ∧
    got id (exec (.crRd 0) State.reset) = some (State.reset.answer 0 1) := by decide

/-- A command with a next state, which is neither AN_CAL nor a command of another unit, for the statements over every
command: EachFieldIsWrittenByItsCommandsOnly, IndexedCommandsTouchOneElement and PortsAreUsedByTheirCommandsOnly. -/
theorem test_witness_whole_machine_rules : got id (exec (.csAdd 5) State.reset) =
    some ((State.reset.setCsum 5).answer 0 5) := by decide

/-- AN_READ that completes, for the clause on its one transfer. -/
theorem test_witness_ports : got (·.rstat) (exec (.anRead 1) (inputs [0] [] [])) = some 0 := by decide

theorem test_witness_every_step_keeps_the_invariant : State.reset.Inv ∧
    got id (step State.reset) = some State.reset := ⟨test_inv_reset, by decide⟩

/-- The two states differ in one byte of RX_BUF past RX_LEN = 10. -/
theorem test_witness_rx_buf_tail : receiving.Inv ∧
    receiving.SameButRxTail { receiving with rxBuf := dataSet.take 10 ++ [7, 0, 0, 0, 0, 0] } ∧
    got id (step receiving) = some receiving :=
  ⟨test_inv_receiving, ⟨rfl, by decide, by decide⟩, by decide⟩

end Sys2Proof.Tests
end

section
/-! PROOFS. The state after reset (10_state.md R47), element by element, for every legal configuration. -/

namespace Sys2Proof

/-! ## What a legal configuration gives (00_scope.md R6, R7) -/

theorem Cfg.Legal.hystReset_le {c : Cfg} (h : c.Legal) : c.hystReset ≤ 63 := by
  obtain ⟨-, -, -, -, -, hhyst, -⟩ := h
  exact hhyst

theorem Cfg.Legal.pdTable_length {c : Cfg} (h : c.Legal) : c.pdTable.length = c.paramCount := by
  obtain ⟨-, -, -, -, -, -, -, -, -, -, -, -, hlen, -⟩ := h
  exact hlen

theorem Cfg.Legal.pdTable_legal {c : Cfg} (h : c.Legal) : ∀ e ∈ c.pdTable, e.Legal := by
  obtain ⟨-, -, -, -, -, -, -, -, -, -, -, -, -, htable⟩ := h
  exact htable

/-- Every slot below PARAM_COUNT has its own, legal, PD_TABLE entry. -/
theorem Cfg.Legal.pd_legal {c : Cfg} (h : c.Legal) {p : Nat} (hp : p < c.paramCount) : (c.pd p).Legal := by
  have hlt : p < c.pdTable.length := h.pdTable_length ▸ hp
  have hpd : c.pd p = c.pdTable[p] := by simp [Cfg.pd, hlt]
  exact hpd ▸ h.pdTable_legal _ (List.getElem_mem hlt)

/-- The initial value of a legal entry is a signed 16-bit number. -/
theorem PdEntry.Legal.init_range {e : PdEntry} (h : e.Legal) : -32768 ≤ e.init ∧ e.init ≤ 32767 := by
  obtain ⟨hmin, -, hmax, hlo, hhi, -⟩ := h
  exact ⟨hmin.trans hlo, hhi.trans hmax⟩

end Sys2Proof

namespace Sys2Proof.Machine

/-! ## The elements after reset -/

@[simp] theorem Slot.atReset_rlValid (e : PdEntry) : (Slot.atReset e).rlValid = false := rfl
@[simp] theorem Slot.atReset_rlLast (e : PdEntry) : (Slot.atReset e).rlLast = 0 := rfl

/-- PD_ACC starts at `init_p * 65536` (10_state.md R39), which 32 signed bits hold. -/
theorem Slot.atReset_pdAcc_toInt {e : PdEntry} (h : e.Legal) : (Slot.atReset e).pdAcc.toInt = e.init * 65536 := by
  obtain ⟨hlo, hhi⟩ := h.init_range
  exact BitVec.toInt_ofInt_eq_self (by decide) (by simp [Config.pdOne]; omega) (by simp [Config.pdOne]; omega)

/-- PD_VAL starts at `init_p` (10_state.md R39), which 16 signed bits hold. -/
theorem Slot.atReset_pdVal_toInt {e : PdEntry} (h : e.Legal) : (Slot.atReset e).pdVal.toInt = e.init := by
  obtain ⟨hlo, hhi⟩ := h.init_range
  exact BitVec.toInt_ofInt_eq_self (by decide) (by simpa using hlo) (by simp; omega)

@[simp] theorem Slot.atReset_pdPrev (e : PdEntry) : (Slot.atReset e).pdPrev = (Slot.atReset e).pdVal := rfl

theorem State.resetOf_chans_length (c : Cfg) : (State.resetOf c).chans.length = c.numCh := List.length_replicate

theorem State.eq_atReset_of_mem_chans {c : Cfg} {x : Channel} (h : x ∈ (State.resetOf c).chans) :
    x = Channel.atReset c.smoothN := List.eq_of_mem_replicate h

theorem State.resetOf_buttons_length (c : Cfg) : (State.resetOf c).buttons.length = c.btnCount :=
  List.length_replicate

theorem State.eq_atReset_of_mem_buttons {c : Cfg} {b : Button} (h : b ∈ (State.resetOf c).buttons) :
    b = Button.atReset := List.eq_of_mem_replicate h

theorem State.resetOf_slots_length {c : Cfg} (h : c.Legal) : (State.resetOf c).slots.length = c.paramCount :=
  (List.length_map _).trans h.pdTable_length

/-- Slot `p` starts from entry `p` of PD_TABLE. -/
theorem State.resetOf_slot (c : Cfg) (p : Nat) : (State.resetOf c).slot p = Slot.atReset (c.pd p) := by
  have h : (State.resetOf c).slot p = (c.pdTable.map Slot.atReset).getD p (Slot.atReset (c.pd p)) := rfl
  by_cases hp : p < c.pdTable.length <;> simp [h, Cfg.pd, hp]

/-- HYST_T starts at HYST_RESET, which its 6 bits hold (10_state.md R45). -/
theorem State.resetOf_hystT_toNat {c : Cfg} (h : c.Legal) : (State.resetOf c).hystT.toNat = c.hystReset :=
  (BitVec.toNat_ofNat _ _).trans (Nat.mod_eq_of_lt (Nat.lt_succ_of_le h.hystReset_le))

/-! ## The reset values -/

/-- Settles O9: a field that is one constant is read off `State.resetOf`; the indexed state and HYST_T go through the
lemmas above, where the configuration's legality says that the value fits its field. -/
theorem resetValuesOfEveryField : Obligations.ResetValuesOfEveryField := by
  intro c hc s
  have hchans : ∀ x ∈ s.chans, x.smBuf = List.replicate c.smoothN 0 ∧ x.smSum = 0 ∧ x.smIdx = 0 ∧
      x.calMin = 1023 ∧ x.calMax = 0 ∧ x.anVal = 0 ∧ x.anChg = false := fun x hx => by
    rw [State.eq_atReset_of_mem_chans hx]
    exact ⟨rfl, rfl, rfl, rfl, rfl, rfl, rfl⟩
  have hbuttons : ∀ b ∈ s.buttons, b.st = false ∧ b.prv = false ∧ b.pend = false ∧ b.tchg = 0 := fun b hb => by
    rw [State.eq_atReset_of_mem_buttons hb]
    exact ⟨rfl, rfl, rfl, rfl⟩
  have hslots : ∀ p, p < c.paramCount → (s.slot p).rlValid = false ∧ (s.slot p).rlLast = 0 ∧
      (s.slot p).pdAcc.toInt = (c.pd p).init * 65536 ∧ (s.slot p).pdVal.toInt = (c.pd p).init ∧
      (s.slot p).pdPrev.toInt = (c.pd p).init := fun p hp => by
    have hpd := hc.pd_legal hp
    simp [s, State.resetOf_slot, Slot.atReset_pdAcc_toInt hpd, Slot.atReset_pdVal_toInt hpd]
  have hhyst : c.hystReset = 2 → s.hystT = 2 := fun h2 => congrArg (BitVec.ofNat 6) h2
  exact ⟨rfl, rfl, State.resetOf_chans_length c, hchans, State.resetOf_buttons_length c, hbuttons,
    rfl, rfl, rfl, rfl, rfl, rfl, rfl, rfl, State.resetOf_slots_length hc, hslots,
    rfl, rfl, rfl, State.resetOf_hystT_toNat hc, hhyst⟩

end Sys2Proof.Machine
end

section
/-! PROOFS. What one command can do, said once for all 32 commands: the calibration run behind AN_CAL, and the inversion of
`exec` that the statements over every command are read off. -/

namespace Sys2Proof.Machine

/-! ## AN_CAL's samples (40_analog.md R116) -/

/-- What holds at first and is kept by every sample of a channel below `n` holds after AN_CAL's samples of the channels
below `n`. -/
theorem State.calChannels_induction {P : State → Prop} {n : Nat} {s : State} (hinit : P s)
    (hstep : ∀ t ch, ch < n → P t → P (t.calSample ch)) : P (s.calChannels n) := by
  have hchannel : ∀ k ch t, ch < n → P t → P (State.calChannel ch k t) := fun k ch => by
    induction k with
    | zero => exact fun _ _ ht => ht
    | succ k ih => exact fun t hch ht => ih _ hch (hstep t ch hch ht)
  refine List.foldlRecOn _ _ hinit fun t ht ch hch => ?_
  exact hchannel _ ch t (List.mem_range.mp hch) ht

/-- A map of states that keeps the configuration and that one sample goes through, all of AN_CAL's samples go through. -/
theorem State.calChannels_comm {f : State → State} (hcfg : ∀ t, (f t).cfg = t.cfg)
    (hstep : ∀ t ch, (f t).calSample ch = f (t.calSample ch)) (n : Nat) (s : State) :
    (f s).calChannels n = f (s.calChannels n) := by
  have hchannel : ∀ k ch t, State.calChannel ch k (f t) = f (State.calChannel ch k t) := fun k ch => by
    induction k with
    | zero => exact fun _ => rfl
    | succ k ih => exact fun t => (congrArg (State.calChannel ch k) (hstep t ch)).trans (ih _)
  simp only [State.calChannels, hcfg]
  exact List.foldl_hom f fun t ch => hchannel _ ch t

/-! ### One channel written, every channel looked at -/

/-- A channel write that is `R`-related to the channel it replaces leaves every channel `R`-related to itself before. -/
theorem State.chan_setChan_rel (s : State) {R : Channel → Channel → Prop} (hrefl : ∀ c, R c c) {i : Nat} {c : Channel}
    (h : R (s.chan i) c) (ch : Nat) : R (s.chan ch) ((s.setChan i c).chan ch) := by
  by_cases hi : i = ch
  · subst hi
    by_cases hlt : i < s.chans.length
    · rwa [s.chan_setChan_self c hlt]
    · have hset : s.setChan i c = s := by simp [State.setChan, List.set_eq_of_length_le (Nat.not_lt.mp hlt)]
      exact hset.symm ▸ hrefl _
  · exact s.chan_setChan_ne c hi ▸ hrefl _

/-- The same for slots, with a relation that may depend on the slot's number. -/
theorem State.slot_setSlot_rel (s : State) {R : Nat → Slot → Slot → Prop} (hrefl : ∀ p x, R p x x) {i : Nat}
    {x : Slot} (h : R i (s.slot i) x) (p : Nat) : R p (s.slot p) ((s.setSlot i x).slot p) := by
  by_cases hi : i = p
  · subst hi
    by_cases hlt : i < s.slots.length
    · rwa [s.slot_setSlot_self x hlt]
    · have hset : s.setSlot i x = s := by simp [State.setSlot, List.set_eq_of_length_le (Nat.not_lt.mp hlt)]
      exact hset.symm ▸ hrefl i _
  · exact s.slot_setSlot_ne x hi ▸ hrefl p _

/-! ### The calibration run -/

/-- `d` is `c` with a number of calibration samples taken into its range. -/
def Channel.WidenedTo (c d : Channel) : Prop := ∃ samples : List (BitVec 10), d = samples.foldl Channel.widen c

theorem Channel.WidenedTo.refl (c : Channel) : c.WidenedTo c := ⟨[], rfl⟩

theorem Channel.WidenedTo.widen {c d : Channel} (h : c.WidenedTo d) (r : BitVec 10) : c.WidenedTo (d.widen r) := by
  obtain ⟨samples, rfl⟩ := h
  exact ⟨samples ++ [r], by simp⟩

/-- `t` is `s` after some calibration samples: the ADC port has moved on and the channels' ranges have widened. -/
def State.CalibratedTo (s t : State) : Prop :=
  ∃ (cs : List Channel) (rest : List (BitVec 10)) (requests : List AdcRequest),
    t = (s.setPorts { s.ports with adcIn := rest, adcLog := requests }).setChans cs ∧ cs.length = s.chans.length ∧
    ∀ ch, (s.chan ch).WidenedTo (cs.getD ch (Channel.atReset s.cfg.smoothN))

theorem State.CalibratedTo.refl (s : State) : s.CalibratedTo s :=
  ⟨s.chans, s.ports.adcIn, s.ports.adcLog, rfl, rfl, fun _ => Channel.WidenedTo.refl _⟩

/-- One more sample. -/
theorem State.CalibratedTo.calSample {s t : State} (h : s.CalibratedTo t) (ch : Nat) :
    s.CalibratedTo (t.calSample ch) := by
  obtain ⟨cs, rest, requests, rfl, hcount, hwidened⟩ := h
  exact ⟨_, _, _, rfl, (List.length_set ..).trans hcount, fun k =>
    State.chan_setChan_rel _ (R := fun c d => (s.chan k).WidenedTo c → (s.chan k).WidenedTo d)
      (fun _ => id) (fun hc => hc.widen _) k (hwidened k)⟩

/-- All of AN_CAL's samples. -/
theorem State.calibratedTo_calChannels (s : State) (n : Nat) : s.CalibratedTo (s.calChannels n) :=
  calChannels_induction (.refl s) fun _ ch _ h => h.calSample ch

/-! ## What a command can do -/

/-! ### The lengths of the messages (42_serial.md R181 to R184) -/

@[simp] theorem State.ccBytes_length (s : State) (a b : BitVec 8) : (s.ccBytes a b).length = 3 := rfl
@[simp] theorem State.pcBytes_length (s : State) (b : BitVec 8) : (s.pcBytes b).length = 2 := rfl
@[simp] theorem State.dt1Bytes_length (s : State) (b : BitVec 8) : (s.dt1Bytes b).length = 11 := rfl
@[simp] theorem State.rq1Bytes_length (s : State) : s.rq1Bytes.length = 13 := rfl

/-- What the command `i` can do to the state `s` that it starts from: the state it answers, written as the updates it makes.
Past the refusals and the plain answers, each constructor is one way in which one command, or two alike, change the
state. -/
inductive CommandEffect (s : State) : Instr → State → Prop
  /-- An error (60_exceptions.md R251). -/
  | refused (i : Instr) (x : BitVec 4) (hx : x.toNat ∈ [1, 2, 3, 5, 6, 7, 8]) : CommandEffect s i (s.answer x 0)
  /-- A result and nothing more. -/
  | answered (i : Instr) (d : BitVec 32) (hi : i.mnemonic ≠ .anRead) : CommandEffect s i (s.answer 0 d)
  /-- AN_READ (40_analog.md R110). -/
  | channelRead (ch : BitVec 10) (d : BitVec 32) (hch : ch.toNat < s.cfg.numCh) :
      CommandEffect s (.anRead ch) (((s.afterSample ch.toNat).setChan ch.toNat
        ((s.chan ch.toNat).read s.cfg.smoothN s.hystT (s.sample ch.toNat))).answer 0 d)
  /-- AN_CHANGED (40_analog.md R112). -/
  | flagCleared (ch : BitVec 10) (d : BitVec 32) (hch : ch.toNat < s.cfg.numCh) :
      CommandEffect s (.anChanged ch) ((s.setChan ch.toNat (s.chan ch.toNat).clearChanged).answer 0 d)
  /-- SM_UPDATE (40_analog.md R113). -/
  | smootherFed (ch v : BitVec 10) (d : BitVec 32) (hch : ch.toNat < s.cfg.numCh) :
      CommandEffect s (.smUpdate ch v)
        ((s.setChan ch.toNat ((s.chan ch.toNat).smUpdate s.cfg.smoothN v)).answer 0 d)
  /-- SM_RESET (40_analog.md R114). -/
  | smootherReset (ch : BitVec 10) (hch : ch.toNat < s.cfg.numCh) :
      CommandEffect s (.smReset ch) ((s.setChan ch.toNat ((s.chan ch.toNat).smReset s.cfg.smoothN)).answer 0 0)
  /-- AN_CAL: the ranges widened by samples, then every smoother reset (40_analog.md R116). -/
  | calibrated (cs : List Channel) (rest : List (BitVec 10)) (requests : List AdcRequest)
      (hcount : cs.length = s.chans.length)
      (hwidened : ∀ ch, (s.chan ch).WidenedTo (cs.getD ch (Channel.atReset s.cfg.smoothN))) :
      CommandEffect s .anCal (((s.setPorts { s.ports with adcIn := rest, adcLog := requests }).setChans
        (cs.map (·.smReset s.cfg.smoothN))).answer 0 0)
  /-- BT_POLL (41_buttons.md R144). -/
  | polled (d : BitVec 32) :
      CommandEffect s .btPoll (((s.setPorts s.ports.afterNow.afterPins).setButtons s.polled).answer 0 d)
  /-- RX_BYTE: the start byte in Idle (42_serial.md R163). -/
  | messageStarted (b : BitVec 8) :
      CommandEffect s (.rxByte b) ((s.setFramer true 1 (s.rxBuf.set 0 0xF0#8)).answer 0 0)
  /-- RX_BYTE: a message that does not validate, or that is too long, dropped (42_serial.md R163). -/
  | messageDropped (b : BitVec 8) :
      CommandEffect s (.rxByte b) ((s.setFramer false 0 (s.rxBuf.set s.rxLen.toNat b)).answer 0 0)
  /-- RX_BYTE: the terminator of a message that validates (42_serial.md R163, R164). -/
  | messageLatched (d : BitVec 32) (hrx : s.rxInprog = true)
      (hvalid : validate (s.rxBuf.set s.rxLen.toNat 0xF7#8) (s.rxLen + 1).toNat = true) :
      CommandEffect s (.rxByte 0xF7#8) (((s.setFramer false 0 (s.rxBuf.set s.rxLen.toNat 0xF7#8)).setLatch true
        (s.rxLen + 1) ((s.rxBuf.set s.rxLen.toNat 0xF7#8).take (s.rxLen + 1).toNat ++
          s.msg.drop (s.rxLen + 1).toNat)).answer 0 d)
  /-- RX_BYTE: one more byte, with room left (42_serial.md R163). -/
  | byteAccumulated (b : BitVec 8) (hrx : s.rxInprog = true) (hroom : (s.rxLen + 1).toNat ≠ s.cfg.sysexMax) :
      CommandEffect s (.rxByte b) ((s.setFramer true (s.rxLen + 1) (s.rxBuf.set s.rxLen.toNat b)).answer 0 0)
  /-- CS_CLR or CS_ADD (42_serial.md R171, R172). -/
  | checksumSet (i : Instr) (hi : i.mnemonic = .csClr ∨ i.mnemonic = .csAdd) (v : BitVec 7) (d : BitVec 32) :
      CommandEffect s i ((s.setCsum v).answer 0 d)
  /-- TX_CC or TX_DT1 inside the slot's window (42_serial.md R180). -/
  | sendSuppressed (i : Instr) (hi : i.mnemonic = .txCc ∨ i.mnemonic = .txDt1) :
      CommandEffect s i ((s.setPorts s.ports.afterNow).answer 0 0)
  /-- TX_CC or TX_DT1 outside the slot's window (42_serial.md R180). -/
  | sentOnSlot (i : Instr) (hi : i.mnemonic = .txCc ∨ i.mnemonic = .txDt1) (p : Nat) (bytes : List (BitVec 8))
      (hp : p < s.cfg.paramCount) (hbytes : 2 ≤ bytes.length ∧ bytes.length ≤ 13) :
      CommandEffect s i (((s.setPorts (s.ports.afterNow.emit bytes)).setSlot p
        ((s.slot p).rateMark s.ports.now)).answer 0 1)
  /-- TX_PC or TX_RQ1 (42_serial.md R182, R184). -/
  | sent (i : Instr) (hi : i.mnemonic = .txPc ∨ i.mnemonic = .txRq1) (bytes : List (BitVec 8))
      (hbytes : 2 ≤ bytes.length ∧ bytes.length ≤ 13) :
      CommandEffect s i ((s.setPorts (s.ports.emit bytes)).answer 0 1)
  /-- TX_SETA (42_serial.md R185). -/
  | addressStaged (h m l : BitVec 7) : CommandEffect s (.txSeta h m l) ((s.setTxa ⟨h, m, l⟩).answer 0 0)
  /-- TX_SETS (42_serial.md R186). -/
  | sizeStaged (h m l : BitVec 7) : CommandEffect s (.txSets h m l) ((s.setTxs ⟨h, m, l⟩).answer 0 0)
  /-- PD_UPDATE: the filter step alone (43_param.md R221). -/
  | slotFiltered (p : BitVec 10) (imm : BitVec 16) (d : BitVec 32) (hp : p.toNat < s.cfg.paramCount)
      (hin : (s.cfg.pd p.toNat).min ≤ imm.toInt ∧ imm.toInt ≤ (s.cfg.pd p.toNat).max) :
      CommandEffect s (.pdUpdate p imm)
        ((s.setSlot p.toNat ((s.slot p.toNat).filter (s.cfg.pd p.toNat) imm.toInt)).answer 0 d)
  /-- PD_UPDATE: the filter step and the commit (43_param.md R221). -/
  | slotCommitted (p : BitVec 10) (imm : BitVec 16) (d : BitVec 32) (hp : p.toNat < s.cfg.paramCount)
      (hin : (s.cfg.pd p.toNat).min ≤ imm.toInt ∧ imm.toInt ≤ (s.cfg.pd p.toNat).max) :
      CommandEffect s (.pdUpdate p imm)
        ((s.setSlot p.toNat ((s.slot p.toNat).filter (s.cfg.pd p.toNat) imm.toInt).commit).answer 0 d)
  /-- CR_WR to CHANNEL (44_control.md R242). -/
  | channelWritten (r : BitVec 10) (v : BitVec 16) (hv : 1 ≤ v.toNat ∧ v.toNat ≤ 16) :
      CommandEffect s (.crWr r v) ((s.setChannel (v.setWidth 5)).answer 0 0)
  /-- CR_WR to MFR_ID (44_control.md R242). -/
  | mfrIdWritten (r : BitVec 10) (v : BitVec 16) : CommandEffect s (.crWr r v) ((s.setMfrId (v.setWidth 7)).answer 0 0)
  /-- CR_WR to MODEL_ID (44_control.md R242). -/
  | modelIdWritten (r : BitVec 10) (v : BitVec 16) :
      CommandEffect s (.crWr r v) ((s.setModelId (v.setWidth 7)).answer 0 0)
  /-- CR_WR to HYST_T (44_control.md R242). -/
  | hystTWritten (r : BitVec 10) (v : BitVec 16) : CommandEffect s (.crWr r v) ((s.setHystT (v.setWidth 6)).answer 0 0)

namespace CommandEffect

section Arms

variable {s : State}

/-! The index checks (20_memory.md R60): a command that checks its index does what it does past the check. -/

theorem of_onChannel {i : Instr} {ch : BitVec 10} {k : Nat → State}
    (hk : ch.toNat < s.cfg.numCh → CommandEffect s i (k ch.toNat)) : CommandEffect s i (s.onChannel ch k) := by
  obtain ⟨hch, h⟩ | ⟨-, h⟩ := s.onChannel_cases k ch
  · exact h ▸ hk hch
  · exact h ▸ .refused i 8 (by decide)

theorem of_onButton {i : Instr} {j : BitVec 10} {k : Nat → State} (hk : CommandEffect s i (k j.toNat)) :
    CommandEffect s i (s.onButton j k) := by
  obtain ⟨-, h⟩ | ⟨-, h⟩ := s.onButton_cases k j
  · exact h ▸ hk
  · exact h ▸ .refused i 8 (by decide)

theorem of_onSlot {i : Instr} {p : BitVec 10} {k : Nat → State}
    (hk : p.toNat < s.cfg.paramCount → CommandEffect s i (k p.toNat)) : CommandEffect s i (s.onSlot p k) := by
  obtain ⟨hp, h⟩ | ⟨-, h⟩ := s.onSlot_cases k p
  · exact h ▸ hk hp
  · exact h ▸ .refused i 2 (by decide)

theorem of_onMessage {i : Instr} {j : BitVec 10} {k : Nat → State} (hk : CommandEffect s i (k j.toNat)) :
    CommandEffect s i (s.onMessage j k) := by
  obtain ⟨-, -, h⟩ | ⟨-, h⟩ := s.onMessage_cases k j
  · exact h ▸ hk
  · exact h ▸ .refused i 8 (by decide)

theorem of_onRegister {i : Instr} {r : BitVec 10} {k : Nat → State} (hk : CommandEffect s i (k r.toNat)) :
    CommandEffect s i (s.onRegister r k) := by
  obtain ⟨-, h⟩ | ⟨-, h⟩ := s.onRegister_cases k r
  · exact h ▸ hk
  · exact h ▸ .refused i 8 (by decide)

/-! The commands with more than one outcome past the index check. -/

/-- The smoothers are reset after the last sample. -/
theorem of_anCal : CommandEffect s .anCal ((s.calChannels s.cfg.numCh).resetSmoothers.ok 0) := by
  obtain ⟨cs, rest, requests, h, hcount, hwidened⟩ := s.calibratedTo_calChannels s.cfg.numCh
  exact h ▸ .calibrated cs rest requests hcount hwidened

theorem of_rxByte (b : BitVec 8) : CommandEffect s (.rxByte b) (s.rxByte b) := by
  obtain ⟨-, h⟩ | ⟨-, -, -, h⟩ | ⟨-, -, -, h⟩ | ⟨-, hrx, h⟩ := s.rxByte_cases b
  · exact h ▸ .answered _ _ nofun
  · exact h ▸ .messageStarted b
  · exact h ▸ .answered _ _ nofun
  · rw [h]
    obtain ⟨rfl, hvalid, h⟩ | ⟨-, -, h⟩ | ⟨-, -, h⟩ | ⟨-, hroom, h⟩ := s.rxAppend_cases b
    · exact h ▸ .messageLatched _ hrx hvalid
    · exact h ▸ .messageDropped b
    · exact h ▸ .messageDropped b
    · exact h ▸ .byteAccumulated b hrx hroom

theorem of_limitedSend {i : Instr} (hi : i.mnemonic = .txCc ∨ i.mnemonic = .txDt1) {p : Nat}
    (hp : p < s.cfg.paramCount) {bytes : List (BitVec 8)} (hbytes : 2 ≤ bytes.length ∧ bytes.length ≤ 13) :
    CommandEffect s i (s.limitedSend p bytes) := by
  obtain ⟨-, h⟩ | ⟨-, h⟩ := s.limitedSend_cases p bytes
  · exact h ▸ .sentOnSlot i hi p bytes hp hbytes
  · exact h ▸ .sendSuppressed i hi

theorem of_pdAccept {p : BitVec 10} {imm : BitVec 16} (hp : p.toNat < s.cfg.paramCount)
    (hin : (s.cfg.pd p.toNat).min ≤ imm.toInt ∧ imm.toInt ≤ (s.cfg.pd p.toNat).max) :
    CommandEffect s (.pdUpdate p imm) (s.pdAccept p.toNat imm.toInt) := by
  cases h : ((s.slot p.toNat).filter (s.cfg.pd p.toNat) imm.toInt).moved s.cfg.pdDeadband
  · simp only [State.pdAccept, h]
    exact .slotFiltered p imm _ hp hin
  · simp only [State.pdAccept, h]
    exact .slotCommitted p imm _ hp hin

theorem of_pdUpdate {p : BitVec 10} {imm : BitVec 16} (hp : p.toNat < s.cfg.paramCount) :
    CommandEffect s (.pdUpdate p imm)
      (if s16 imm < (s.cfg.pd p.toNat).min ∨ (s.cfg.pd p.toNat).max < s16 imm then s.raise .outOfRange
       else s.pdAccept p.toNat (s16 imm)) := by
  split
  case isTrue => exact .refused _ 3 (by decide)
  case isFalse hin =>
    obtain ⟨hlo, hhi⟩ := not_or.mp hin
    exact of_pdAccept hp ⟨not_lt.mp hlo, not_lt.mp hhi⟩

theorem of_crWrite (r : BitVec 10) (v : BitVec 16) (n : Nat) : CommandEffect s (.crWr r v) (s.crWrite v n) := by
  unfold State.crWrite
  split
  case h_1 =>
    split
    case isTrue => exact .refused _ 1 (by decide)
    case isFalse hv => exact .channelWritten r v (by omega)
  case h_2 =>
    split
    case isTrue => exact .refused _ 3 (by decide)
    case isFalse => exact .mfrIdWritten r v
  case h_3 =>
    split
    case isTrue => exact .refused _ 3 (by decide)
    case isFalse => exact .modelIdWritten r v
  case h_4 =>
    split
    case isTrue => exact .refused _ 3 (by decide)
    case isFalse => exact .hystTWritten r v
  case h_5 => exact .refused _ 7 (by decide)

theorem of_rxDt1 : CommandEffect s .rxDt1
    (if s.msgValid = false ∨ s.msgLen.toNat < 11 ∨ s.msgByte 4 ≠ 0x12#8 then s.raise .malformed
     else s.ok (s.msgByte 5 ++ s.msgByte 6 ++ s.msgByte 7 ++ s.msgByte 8)) := by
  split
  · exact .refused _ 6 (by decide)
  · exact .answered _ _ nofun

theorem of_csVer (c : BitVec 8) :
    CommandEffect s (.csVer c) (if s.csumPlus c ≠ 0 then s.raise .checksumError else s.ok 1) := by
  split
  · exact .refused _ 5 (by decide)
  · exact .answered _ _ nofun

end Arms

/-- Every command, with every operand, in every state, completes with one of its effects. -/
theorem exec_completes (i : Instr) (s : State) : ∃ t, exec i s = .next t ∧ CommandEffect s i t := by
  cases i with
  | nop => exact ⟨_, rfl, .answered _ _ nofun⟩
  | anRead ch => exact ⟨_, rfl, of_onChannel (.channelRead ch _)⟩
  | anGet ch => exact ⟨_, rfl, of_onChannel fun _ => .answered _ _ nofun⟩
  | anChanged ch => exact ⟨_, rfl, of_onChannel (.flagCleared ch _)⟩
  | anCal => exact ⟨_, rfl, of_anCal⟩
  | anCalrd ch => exact ⟨_, rfl, of_onChannel fun _ => .answered _ _ nofun⟩
  | smUpdate ch v => exact ⟨_, rfl, of_onChannel (.smootherFed ch v _)⟩
  | smReset ch => exact ⟨_, rfl, of_onChannel (.smootherReset ch)⟩
  | norm ch v => exact ⟨_, rfl, of_onChannel fun _ => .answered _ _ nofun⟩
  | hyst cur prev thr => exact ⟨_, rfl, .answered _ _ nofun⟩
  | btPoll => exact ⟨_, rfl, .polled _⟩
  | btState j => exact ⟨_, rfl, of_onButton (.answered _ _ nofun)⟩
  | btPressed j => exact ⟨_, rfl, of_onButton (.answered _ _ nofun)⟩
  | btReleased j => exact ⟨_, rfl, of_onButton (.answered _ _ nofun)⟩
  | rxByte b => exact ⟨_, rfl, of_rxByte b⟩
  | rxRd k => exact ⟨_, rfl, of_onMessage (.answered _ _ nofun)⟩
  | rxDt1 => exact ⟨_, rfl, of_rxDt1⟩
  | csClr => exact ⟨_, rfl, .checksumSet _ (.inl rfl) 0 0⟩
  | csAdd b => exact ⟨_, rfl, .checksumSet _ (.inr rfl) _ _⟩
  | csGen => exact ⟨_, rfl, .answered _ _ nofun⟩
  | csVer c => exact ⟨_, rfl, of_csVer c⟩
  | txCc p a b => exact ⟨_, rfl, of_onSlot fun hp => of_limitedSend (.inl rfl) hp (by simp)⟩
  | txPc b => exact ⟨_, rfl, .sent _ (.inl rfl) _ (by simp)⟩
  | txDt1 p b => exact ⟨_, rfl, of_onSlot fun hp => of_limitedSend (.inr rfl) hp (by simp)⟩
  | txRq1 => exact ⟨_, rfl, .sent _ (.inr rfl) _ (by simp)⟩
  | txSeta h m l => exact ⟨_, rfl, .addressStaged h m l⟩
  | txSets h m l => exact ⟨_, rfl, .sizeStaged h m l⟩
  | pdUpdate p imm => exact ⟨_, rfl, of_onSlot of_pdUpdate⟩
  | pdGet p => exact ⟨_, rfl, of_onSlot fun _ => .answered _ _ nofun⟩
  | pdPrev p => exact ⟨_, rfl, of_onSlot fun _ => .answered _ _ nofun⟩
  | crRd r => exact ⟨_, rfl, of_onRegister (.answered _ _ nofun)⟩
  | crWr r v => exact ⟨_, rfl, of_onRegister (of_crWrite r v _)⟩

/-- A command that answers a next state had one of its effects. -/
theorem of_exec {i : Instr} {s t : State} (h : exec i s = .next t) : CommandEffect s i t := by
  obtain ⟨u, hu, heffect⟩ := exec_completes i s
  rw [h] at hu
  cases hu
  exact heffect

end CommandEffect

end Sys2Proof.Machine
end

section
/-! PROOFS. What every command leaves unchanged: the fields (10_state.md R31, R32, R40) and the ports (R23 to R26). Each law
names the commands that may write its field; the others are told apart by `CommandEffect`. -/

namespace Sys2Proof.Machine

/-! ## One channel and one slot -/

/-- What a command of mnemonic `m` can do to one channel whose window has `n` samples. -/
inductive Channel.Edit (n : Nat) : Mnemonic → Channel → Channel → Prop
  | kept (m : Mnemonic) (c : Channel) : Edit n m c c
  | read (c : Channel) (thr : BitVec 6) (raw : BitVec 10) : Edit n .anRead c (c.read n thr raw)
  | flagCleared (c : Channel) : Edit n .anChanged c c.clearChanged
  | smootherFed (c : Channel) (raw : BitVec 10) : Edit n .smUpdate c (c.smUpdate n raw)
  | smootherReset (c : Channel) : Edit n .smReset c (c.smReset n)
  | calibrated (c d : Channel) (h : c.WidenedTo d) : Edit n .anCal c (d.smReset n)

/-- What a command of mnemonic `m` can do to one slot with the PD_TABLE entry `e`. -/
inductive Slot.Edit (e : PdEntry) : Mnemonic → Slot → Slot → Prop
  | kept (m : Mnemonic) (x : Slot) : Edit e m x x
  | marked (m : Mnemonic) (hm : m = .txCc ∨ m = .txDt1) (x : Slot) (now : BitVec 32) : Edit e m x (x.rateMark now)
  | filtered (x : Slot) (input : Int) (hin : e.min ≤ input ∧ input ≤ e.max) : Edit e .pdUpdate x (x.filter e input)
  | committed (x : Slot) (input : Int) (hin : e.min ≤ input ∧ input ≤ e.max) :
      Edit e .pdUpdate x (x.filter e input).commit

/-- AN_READ's channel is the smoothed one, or that one with a value cached and flagged (40_analog.md R110). -/
theorem Channel.read_cases (c : Channel) (n : Nat) (thr : BitVec 6) (raw : BitVec 10) :
    c.read n thr raw = c.smUpdate n raw ∨
    ∃ v, c.read n thr raw = { c.smUpdate n raw with anVal := v, anChg := true } := by
  simp only [Channel.read, Channel.accept]
  split
  · exact .inl rfl
  · exact .inr ⟨_, rfl⟩

/-- Calibration samples leave the cached value and the flag (40_analog.md R116). -/
theorem Channel.WidenedTo.cache_eq {c d : Channel} (h : c.WidenedTo d) : d.anVal = c.anVal ∧ d.anChg = c.anChg := by
  obtain ⟨samples, rfl⟩ := h
  exact List.foldlRecOn (motive := fun d : Channel => d.anVal = c.anVal ∧ d.anChg = c.anChg) samples _ ⟨rfl, rfl⟩
    fun _ hd _ _ => hd

namespace Channel.Edit

variable {n : Nat} {m : Mnemonic} {c d : Channel}

theorem anVal_eq (h : Edit n m c d) (hm : m ≠ .anRead) : d.anVal = c.anVal := by
  cases h with
  | read => exact absurd rfl hm
  | calibrated _ _ hw => exact hw.cache_eq.1
  | _ => rfl

theorem anChg_stays_set (h : Edit n m c d) (hm : m ≠ .anChanged) (hc : c.anChg = true) : d.anChg = true := by
  cases h with
  | read _ thr raw =>
    obtain h | ⟨v, h⟩ := c.read_cases n thr raw
    · exact h ▸ hc
    · exact h ▸ rfl
  | flagCleared => exact absurd rfl hm
  | calibrated _ _ hw => exact hw.cache_eq.2.trans hc
  | _ => exact hc

theorem anChg_stays_clear (h : Edit n m c d) (hm : m ≠ .anRead) (hd : d.anChg = true) : c.anChg = true := by
  cases h with
  | read => exact absurd rfl hm
  | flagCleared => exact Bool.noConfusion hd
  | calibrated _ _ hw => exact hw.cache_eq.2.symm.trans hd
  | _ => exact hd

theorem range_eq (h : Edit n m c d) (hm : m ≠ .anCal) : d.calMin = c.calMin ∧ d.calMax = c.calMax := by
  cases h with
  | read _ thr raw =>
    obtain h | ⟨v, h⟩ := c.read_cases n thr raw
    · exact h ▸ ⟨rfl, rfl⟩
    · exact h ▸ ⟨rfl, rfl⟩
  | calibrated => exact absurd rfl hm
  | _ => exact ⟨rfl, rfl⟩

theorem smoother_eq (h : Edit n m c d) (hm : m ∉ [.anRead, .smUpdate, .smReset, .anCal]) :
    d.smBuf = c.smBuf ∧ d.smSum = c.smSum ∧ d.smIdx = c.smIdx := by
  cases h with
  | kept | flagCleared => exact ⟨rfl, rfl, rfl⟩
  | _ => exact absurd (by decide) hm

end Channel.Edit

namespace Slot.Edit

variable {e : PdEntry} {m : Mnemonic} {x y : Slot}

theorem limiter_eq (h : Edit e m x y) (hm : m ∉ [.txCc, .txDt1]) : y.rlValid = x.rlValid ∧ y.rlLast = x.rlLast := by
  cases h with
  | marked _ htx => exact absurd (by simpa using htx) hm
  | _ => exact ⟨rfl, rfl⟩

theorem detector_eq (h : Edit e m x y) (hm : m ≠ .pdUpdate) :
    y.pdAcc = x.pdAcc ∧ y.pdVal = x.pdVal ∧ y.pdPrev = x.pdPrev := by
  cases h with
  | kept | marked => exact ⟨rfl, rfl, rfl⟩
  | _ => exact absurd rfl hm

end Slot.Edit

namespace CommandEffect

variable {i : Instr} {s t : State}

/-- Every channel is edited, or kept, by the command's mnemonic. -/
theorem chan_edit (h : CommandEffect s i t) (ch : Nat) :
    Channel.Edit s.cfg.smoothN i.mnemonic (s.chan ch) (t.chan ch) := by
  cases h with
  | channelRead => exact State.chan_setChan_rel _ (.kept _) (.read _ _ _) ch
  | flagCleared => exact State.chan_setChan_rel _ (.kept _) (.flagCleared _) ch
  | smootherFed => exact State.chan_setChan_rel _ (.kept _) (.smootherFed _ _) ch
  | smootherReset => exact State.chan_setChan_rel _ (.kept _) (.smootherReset _) ch
  | calibrated cs _ _ _ hwidened =>
    have hreset : (cs.map (·.smReset s.cfg.smoothN)).getD ch (Channel.atReset s.cfg.smoothN) =
        (cs.getD ch (Channel.atReset s.cfg.smoothN)).smReset s.cfg.smoothN :=
      List.getD_map cs (Channel.atReset s.cfg.smoothN) (·.smReset s.cfg.smoothN)
    exact (congrArg (Channel.Edit _ .anCal (s.chan ch)) hreset).mpr (.calibrated _ _ (hwidened ch))
  | _ => exact .kept _ _

/-- Every slot is edited, or kept, by the command's mnemonic. -/
theorem slot_edit (h : CommandEffect s i t) (p : Nat) :
    Slot.Edit (s.cfg.pd p) i.mnemonic (s.slot p) (t.slot p) := by
  cases h with
  | sentOnSlot _ hi =>
    exact State.slot_setSlot_rel _ (R := fun p => Slot.Edit (s.cfg.pd p) i.mnemonic) (fun _ => .kept _)
      (.marked _ hi _ _) p
  | slotFiltered _ _ _ _ hin =>
    exact State.slot_setSlot_rel _ (R := fun p => Slot.Edit (s.cfg.pd p) .pdUpdate) (fun _ => .kept _)
      (.filtered _ _ hin) p
  | slotCommitted _ _ _ _ hin =>
    exact State.slot_setSlot_rel _ (R := fun p => Slot.Edit (s.cfg.pd p) .pdUpdate) (fun _ => .kept _)
      (.committed _ _ hin) p
  | _ => exact .kept _ _

/-! ## The fields -/

theorem cfg_eq (h : CommandEffect s i t) : t.cfg = s.cfg := by cases h <;> rfl

theorem chans_length (h : CommandEffect s i t) : t.chans.length = s.chans.length := by
  cases h with
  | channelRead | flagCleared | smootherFed | smootherReset => exact List.length_set
  | calibrated _ _ _ hcount => exact (List.length_map _).trans hcount
  | _ => rfl

theorem buttons_length (h : CommandEffect s i t) : t.buttons.length = s.buttons.length := by
  cases h with
  | polled => exact List.length_mapIdx
  | _ => rfl

theorem slots_length (h : CommandEffect s i t) : t.slots.length = s.slots.length := by
  cases h with
  | sentOnSlot | slotFiltered | slotCommitted => exact List.length_set
  | _ => rfl

theorem buttons_eq (h : CommandEffect s i t) (hi : i.mnemonic ≠ .btPoll) : t.buttons = s.buttons := by
  cases h with
  | polled => exact absurd rfl hi
  | _ => rfl

theorem framer_eq (h : CommandEffect s i t) (hi : i.mnemonic ≠ .rxByte) :
    t.rxInprog = s.rxInprog ∧ t.rxLen = s.rxLen ∧ t.rxBuf = s.rxBuf ∧
    t.msgValid = s.msgValid ∧ t.msgLen = s.msgLen ∧ t.msg = s.msg := by
  cases h with
  | messageStarted | messageDropped | messageLatched | byteAccumulated => exact absurd rfl hi
  | _ => exact ⟨rfl, rfl, rfl, rfl, rfl, rfl⟩

theorem msgValid_stays_set (h : CommandEffect s i t) (hs : s.msgValid = true) : t.msgValid = true := by
  cases h with
  | messageLatched => rfl
  | _ => exact hs

theorem csum_eq (h : CommandEffect s i t) (hi : i.mnemonic ∉ [.csClr, .csAdd]) : t.csum = s.csum := by
  cases h with
  | checksumSet _ hcs => exact absurd (by simpa using hcs) hi
  | _ => rfl

theorem txa_eq (h : CommandEffect s i t) (hi : i.mnemonic ≠ .txSeta) : t.txa = s.txa := by
  cases h with
  | addressStaged => exact absurd rfl hi
  | _ => rfl

theorem txs_eq (h : CommandEffect s i t) (hi : i.mnemonic ≠ .txSets) : t.txs = s.txs := by
  cases h with
  | sizeStaged => exact absurd rfl hi
  | _ => rfl

theorem registers_eq (h : CommandEffect s i t) (hi : i.mnemonic ≠ .crWr) :
    t.channel = s.channel ∧ t.mfrId = s.mfrId ∧ t.modelId = s.modelId ∧ t.hystT = s.hystT := by
  cases h with
  | channelWritten | mfrIdWritten | modelIdWritten | hystTWritten => exact absurd rfl hi
  | _ => exact ⟨rfl, rfl, rfl, rfl⟩

/-! ## The ports -/

theorem adc_eq (h : CommandEffect s i t) (hi : i.mnemonic ∉ [.anRead, .anCal]) :
    t.ports.adcLog = s.ports.adcLog ∧ t.ports.adcIn = s.ports.adcIn := by
  cases h with
  | channelRead | calibrated => exact absurd (by simp [Instr.mnemonic]) hi
  | _ => exact ⟨rfl, rfl⟩

/-- AN_READ makes one transfer unless it is refused. -/
theorem adcLog_of_anRead (h : CommandEffect s i t) (hi : i.mnemonic = .anRead) (hok : t.rstat = 0) :
    ∃ r, t.ports.adcLog = s.ports.adcLog ++ [r] := by
  cases h with
  | refused _ x hx =>
    have hx0 : x = 0 := hok
    exact absurd hx (hx0 ▸ by decide)
  | answered _ _ hne => exact absurd hi hne
  | channelRead => exact ⟨_, rfl⟩
  | checksumSet _ hcs => simp [hi] at hcs
  | sendSuppressed _ htx => simp [hi] at htx
  | sentOnSlot _ htx => simp [hi] at htx
  | sent _ htx => simp [hi] at htx
  | _ => exact nomatch hi

theorem pins_eq (h : CommandEffect s i t) (hi : i.mnemonic ≠ .btPoll) :
    t.ports.pinsCount = s.ports.pinsCount ∧ t.ports.pinsIn = s.ports.pinsIn := by
  cases h with
  | polled => exact absurd rfl hi
  | _ => exact ⟨rfl, rfl⟩

/-- No command samples the pins twice. -/
theorem pinsCount_le (h : CommandEffect s i t) : t.ports.pinsCount ≤ s.ports.pinsCount + 1 := by
  cases h with
  | polled => exact Nat.le_refl _
  | _ => exact Nat.le_succ _

theorem now_eq (h : CommandEffect s i t) (hi : i.mnemonic ∉ [.btPoll, .txCc, .txDt1]) :
    t.ports.nowCount = s.ports.nowCount ∧ t.ports.nowIn = s.ports.nowIn := by
  cases h with
  | polled => exact absurd (by decide) hi
  | sendSuppressed _ htx | sentOnSlot _ htx => exact absurd (by simpa using .inr htx) hi
  | _ => exact ⟨rfl, rfl⟩

/-- No command samples the time twice. -/
theorem nowCount_le (h : CommandEffect s i t) : t.ports.nowCount ≤ s.ports.nowCount + 1 := by
  cases h with
  | polled | sendSuppressed | sentOnSlot => exact Nat.le_refl _
  | _ => exact Nat.le_succ _

/-- An error uses no port. -/
theorem ports_eq_of_error (h : CommandEffect s i t) (herr : t.rstat ≠ 0) : t.ports = s.ports := by
  cases h with
  | refused => rfl
  | _ => exact absurd rfl herr

theorem cmdIn_eq (h : CommandEffect s i t) : t.ports.cmdIn = s.ports.cmdIn := by cases h <;> rfl

/-- The transmit stream grows by nothing or by one message, and by nothing unless a TX command sends. -/
theorem tx_grows (h : CommandEffect s i t) : ∃ bytes, t.ports.tx = s.ports.tx ++ bytes ∧
    (bytes = [] ∨ (2 ≤ bytes.length ∧ bytes.length ≤ 13)) ∧
    (i.mnemonic ∉ [.txCc, .txPc, .txDt1, .txRq1] → bytes = []) := by
  cases h with
  | sentOnSlot _ htx _ bytes _ hbytes =>
    exact ⟨bytes, rfl, .inr hbytes, fun hi => absurd (by rcases htx with h | h <;> simp [h]) hi⟩
  | sent _ htx bytes hbytes =>
    exact ⟨bytes, rfl, .inr hbytes, fun hi => absurd (by rcases htx with h | h <;> simp [h]) hi⟩
  | _ => exact ⟨[], (List.append_nil _).symm, .inl rfl, fun _ => rfl⟩

end CommandEffect

/-! ## The statements -/

/-- Settles O54: the law of each field, and for the indexed state the edit of each element. -/
theorem eachFieldIsWrittenByItsCommandsOnly : Obligations.EachFieldIsWrittenByItsCommandsOnly := by
  intro i s t hexec
  have h := CommandEffect.of_exec hexec
  exact ⟨fun hi ch => (h.chan_edit ch).anVal_eq hi, fun hi ch => (h.chan_edit ch).anChg_stays_set hi,
    fun hi ch => (h.chan_edit ch).anChg_stays_clear hi, fun hi ch => (h.chan_edit ch).range_eq hi,
    fun hi ch => (h.chan_edit ch).smoother_eq hi, h.buttons_eq, h.framer_eq, h.msgValid_stays_set, h.csum_eq,
    h.txa_eq, h.txs_eq, fun hi p => (h.slot_edit p).limiter_eq hi, fun hi p => (h.slot_edit p).detector_eq hi,
    h.registers_eq, h.cfg_eq⟩

/-- Settles O56: the law of each port. -/
theorem portsAreUsedByTheirCommandsOnly : Obligations.PortsAreUsedByTheirCommandsOnly := by
  intro i s t hexec
  have h := CommandEffect.of_exec hexec
  exact ⟨h.adc_eq, h.adcLog_of_anRead, h.pins_eq, h.pinsCount_le, h.now_eq, h.nowCount_le, h.ports_eq_of_error,
    h.cmdIn_eq, h.tx_grows⟩

end Sys2Proof.Machine
end

section
/-! PROOFS. The invariant (10_state.md R30 to R43, 42_serial.md R160 to R164, 43_param.md R224): reset has it, every command
keeps it, and so does every step. -/

namespace Sys2Proof

/-! ## What a legal configuration gives (00_scope.md R6, R7) -/

theorem Cfg.Legal.smoothN_range {c : Cfg} (h : c.Legal) : 1 ≤ c.smoothN ∧ c.smoothN ≤ 1024 := by
  obtain ⟨-, -, -, hn, -⟩ := h
  exact hn

theorem Cfg.Legal.sysexMax_range {c : Cfg} (h : c.Legal) : 7 ≤ c.sysexMax ∧ c.sysexMax ≤ 255 := by
  obtain ⟨-, -, -, -, -, -, -, -, hmax, -⟩ := h
  exact hmax

/-- The initial value of a legal entry lies in the entry's range. -/
theorem PdEntry.Legal.init_mem {e : PdEntry} (h : e.Legal) : e.min ≤ e.init ∧ e.init ≤ e.max := by
  obtain ⟨-, -, -, hlo, hhi, -⟩ := h
  exact ⟨hlo, hhi⟩

end Sys2Proof

namespace Sys2Proof.Machine

/-! ## One channel (10_state.md R30, R31) -/

/-- A list of numbers with one replaced: the sum loses the old one and gains the new one. -/
theorem sum_map_set {α : Type} (f : α → Nat) (l : List α) {i : Nat} (h : i < l.length) (a : α) :
    ((l.set i a).map f).sum + f l[i] = (l.map f).sum + f a := by
  induction l generalizing i with
  | nil => exact absurd h (Nat.not_lt_zero i)
  | cons x l ih =>
    cases i with
    | zero => simp; omega
    | succ i =>
      have := ih (Nat.lt_of_succ_lt_succ h)
      simp only [List.set_cons_succ, List.map_cons, List.sum_cons, List.getElem_cons_succ]
      omega

/-- A window of `n` samples sums to at most `n * MAX_RAW`. -/
theorem sum_samples_le (l : List (BitVec 10)) : (l.map BitVec.toNat).sum ≤ l.length * 1023 := by
  have h := List.sum_le_card_nsmul (l.map BitVec.toNat) 1023 fun x hx => by
    obtain ⟨v, -, rfl⟩ := List.mem_map.mp hx
    exact Nat.le_of_lt_succ v.isLt
  simpa using h

/-- The smoother drops its oldest sample for the new one, and its sum stays the window's (40_analog.md R102). -/
theorem Channel.Inv.smUpdate {n : Nat} {c : Channel} (h : c.Inv n) (hn : n ≤ 1024) (raw : BitVec 10) :
    (c.smUpdate n raw).Inv n := by
  obtain ⟨hlen, hsum, hidx, hrange⟩ := h
  have hlt : c.smIdx.toNat < c.smBuf.length := hlen ▸ hidx
  have hpos : 0 < n := Nat.lt_of_le_of_lt (Nat.zero_le _) hidx
  have hset := sum_map_set BitVec.toNat c.smBuf hlt raw
  have hmem : c.smBuf[c.smIdx.toNat].toNat ≤ (c.smBuf.map BitVec.toNat).sum :=
    List.le_sum_of_mem (List.mem_map_of_mem (List.getElem_mem hlt))
  have hle : ((c.smBuf.set c.smIdx.toNat raw).map BitVec.toNat).sum ≤ n * 1023 := by
    simpa [hlen] using sum_samples_le (c.smBuf.set c.smIdx.toNat raw)
  refine ⟨(List.length_set ..).trans hlen, ?_, ?_, hrange⟩
  · have hget : c.smBuf.getD c.smIdx.toNat 0 = c.smBuf[c.smIdx.toNat] := by simp [hlt]
    have hold := c.smBuf[c.smIdx.toNat].isLt
    have hraw := raw.isLt
    have hsumlt := c.smSum.isLt
    simp only [Channel.smUpdate, hget, BitVec.toNat_add, BitVec.toNat_sub, BitVec.toNat_setWidth, hsum]
    omega
  · have hmod := Nat.mod_lt (c.smIdx.toNat + 1) hpos
    simp only [Channel.smUpdate, BitVec.toNat_ofNat]
    omega

theorem Channel.Inv.smReset {n : Nat} {c : Channel} (h : c.Inv n) : (c.smReset n).Inv n := by
  obtain ⟨-, -, hidx, hrange⟩ := h
  exact ⟨List.length_replicate, by simp [Channel.smReset], Nat.lt_of_le_of_lt (Nat.zero_le _) hidx, hrange⟩

/-- One sample makes the range ordered, and an ordered range stays ordered (40_analog.md R116). -/
theorem Channel.Inv.widen {n : Nat} {c : Channel} (h : c.Inv n) (r : BitVec 10) : (c.widen r).Inv n := by
  obtain ⟨hlen, hsum, hidx, -⟩ := h
  refine ⟨hlen, hsum, hidx, .inl ?_⟩
  have hmin : (c.widen r).calMin.toNat ≤ r.toNat := by simp only [Channel.widen]; split <;> omega
  have hmax : r.toNat ≤ (c.widen r).calMax.toNat := by simp only [Channel.widen]; split <;> omega
  exact hmin.trans hmax

theorem Channel.Inv.widenedTo {n : Nat} {c d : Channel} (h : c.Inv n) (hd : c.WidenedTo d) : d.Inv n := by
  obtain ⟨samples, rfl⟩ := hd
  exact List.foldlRecOn (motive := fun d => Channel.Inv n d) samples _ h fun _ hd r _ => Channel.Inv.widen hd r

/-- Whatever a command does to a channel keeps the channel's invariant. -/
theorem Channel.Edit.inv {n : Nat} {m : Mnemonic} {c d : Channel} (h : Edit n m c d) (hn : n ≤ 1024) (hc : c.Inv n) :
    d.Inv n := by
  cases h with
  | kept | flagCleared => exact hc
  | read _ thr raw =>
    have hu := hc.smUpdate hn raw
    obtain h | ⟨v, h⟩ := c.read_cases n thr raw
    · exact h ▸ hu
    · exact h ▸ hu
  | smootherFed _ raw => exact hc.smUpdate hn raw
  | smootherReset => exact hc.smReset
  | calibrated _ _ hd => exact (hc.widenedTo hd).smReset

theorem Channel.atReset_inv {n : Nat} (hn : 1 ≤ n) : (Channel.atReset n).Inv n :=
  ⟨List.length_replicate, by simp [Channel.atReset], hn, .inr ⟨rfl, rfl⟩⟩

/-! ## One slot (43_param.md R224) -/

/-- The arithmetic shift by PD_FRAC bits is the floored division (43_param.md R221). -/
theorem shiftRight_pdFrac (a : Int) : a >>> (16 : Int) = a / 65536 :=
  (Int.shiftRight_natCast_right a 16).trans (Int.shiftRight_eq_div_pow a 16)

/-- A share of `alpha / 65536` of a non-negative way is non-negative and no longer than the way. -/
theorem share_of_nonneg {alpha : Nat} {d : Int} (ha : alpha ≤ 65536) (hd : 0 ≤ d) :
    0 ≤ alpha * d / 65536 ∧ alpha * d / 65536 ≤ d := by
  have h0 : 0 ≤ (alpha : Int) * d := by positivity
  have h1 : (alpha : Int) * d ≤ 65536 * d := by gcongr; exact_mod_cast ha
  omega

/-- The same downwards. -/
theorem share_of_nonpos {alpha : Nat} {d : Int} (ha : alpha ≤ 65536) (hd : d ≤ 0) :
    d ≤ alpha * d / 65536 ∧ alpha * d / 65536 ≤ 0 := by
  have h0 : (alpha : Int) * d ≤ 0 := mul_nonpos_of_nonneg_of_nonpos (by positivity) hd
  have h1 : 65536 * d ≤ (alpha : Int) * d := mul_le_mul_of_nonpos_right (by exact_mod_cast ha) hd
  omega

/-- The filter moves the accumulator towards the input and not past it, so it stays in a legal entry's range
(43_param.md R224 (a)). -/
theorem Slot.filtered_mem {e : PdEntry} (he : e.Legal) {x : Slot} {input : Int} (hin : e.min ≤ input ∧ input ≤ e.max)
    (hacc : e.min * 65536 ≤ x.pdAcc.toInt ∧ x.pdAcc.toInt ≤ e.max * 65536) :
    e.min * 65536 ≤ x.filtered e input ∧ x.filtered e input ≤ e.max * 65536 := by
  obtain ⟨-, -, -, -, -, halpha⟩ := he
  simp only [Slot.filtered, shiftRight_pdFrac, Config.pdOne, Nat.cast_ofNat]
  rcases le_total 0 (input * 65536 - x.pdAcc.toInt) with hd | hd
  · have := share_of_nonneg halpha hd
    omega
  · have := share_of_nonpos halpha hd
    omega

/-- The filtered accumulator fits its 32 bits. -/
theorem Slot.filter_pdAcc_toInt {e : PdEntry} (he : e.Legal) {x : Slot} {input : Int}
    (hin : e.min ≤ input ∧ input ≤ e.max)
    (hacc : e.min * 65536 ≤ x.pdAcc.toInt ∧ x.pdAcc.toInt ≤ e.max * 65536) :
    (x.filter e input).pdAcc.toInt = x.filtered e input := by
  have hmem := Slot.filtered_mem he hin hacc
  obtain ⟨hmin, -, hmax, -⟩ := he
  exact BitVec.toInt_ofInt_eq_self (by decide) (by simp; omega) (by simp; omega)

/-- An accumulator in the range rounds into the range (43_param.md R224 (b)). -/
theorem Slot.rounded_mem {e : PdEntry} {x : Slot}
    (hacc : e.min * 65536 ≤ x.pdAcc.toInt ∧ x.pdAcc.toInt ≤ e.max * 65536) :
    e.min ≤ x.rounded ∧ x.rounded ≤ e.max := by
  rw [Slot.rounded, shiftRight_pdFrac]
  omega

theorem Slot.Inv.filter {e : PdEntry} {x : Slot} (h : x.Inv e) (he : e.Legal) {input : Int}
    (hin : e.min ≤ input ∧ input ≤ e.max) : (x.filter e input).Inv e := by
  obtain ⟨hacc, hval, hprev⟩ := h
  exact ⟨by rw [Slot.filter_pdAcc_toInt he hin hacc]; exact Slot.filtered_mem he hin hacc, hval, hprev⟩

theorem Slot.Inv.commit {e : PdEntry} {x : Slot} (h : x.Inv e) (he : e.Legal) : x.commit.Inv e := by
  obtain ⟨hacc, hval, -⟩ := h
  have hr := Slot.rounded_mem hacc
  obtain ⟨hmin, -, hmax, -⟩ := he
  have hfits : x.commit.pdVal.toInt = x.rounded :=
    BitVec.toInt_ofInt_eq_self (by decide) (by simp; omega) (by simp; omega)
  exact ⟨hacc, hfits ▸ hr, hval⟩

/-- Whatever a command does to a slot keeps the slot's invariant. -/
theorem Slot.Edit.inv {e : PdEntry} {m : Mnemonic} {x y : Slot} (h : Edit e m x y) (he : e.Legal) (hx : x.Inv e) :
    y.Inv e := by
  cases h with
  | kept | marked => exact hx
  | filtered _ _ hin => exact hx.filter he hin
  | committed _ _ hin => exact (hx.filter he hin).commit he

theorem Slot.atReset_inv {e : PdEntry} (he : e.Legal) : (Slot.atReset e).Inv e := by
  have hinit := he.init_mem
  simp only [Slot.Inv, Slot.atReset_pdPrev, Slot.atReset_pdVal_toInt he, Slot.atReset_pdAcc_toInt he, Config.pdOne]
  omega

/-! ## The framer and the latched message (42_serial.md R160, R163, R164) -/

/-- Validation of a message of `L` bytes looks at no byte from `L` on. -/
theorem validate_take (B : List (BitVec 8)) (L : Nat) : validate (B.take L) L = validate B L := by
  by_cases hL : 7 ≤ L
  · have hrange : checksumRange (B.take L) L = checksumRange B L := by
      simp [checksumRange, List.take_take]
    have hlt : L - 2 < L := by omega
    simp [validate, hrange, hlt]
  · simp [validate, hL]

/-- A byte of a list that starts with the first `L` bytes of `buf` is that of `buf` below `L`. -/
theorem getD_take_append {buf rest : List (BitVec 8)} {L k : Nat} (hL : L ≤ buf.length) (hk : k < L) :
    (buf.take L ++ rest).getD k 0 = buf.getD k 0 := by
  simp [List.getElem?_append, hk, Nat.lt_of_lt_of_le hk hL]

/-- A message behind which other bytes stand validates as it does alone. -/
theorem validate_take_append {buf rest : List (BitVec 8)} {L : Nat} (hL : L ≤ buf.length) :
    validate (buf.take L ++ rest) L = validate buf L := by
  rw [← validate_take (buf.take L ++ rest), List.take_append_of_le_length (by simpa using hL), List.take_take,
    Nat.min_self, validate_take]

namespace State.Inv

variable {s : State}

/-- A further byte of RX_BUF is counted without wrapping. -/
theorem rxLen_succ_toNat (h : s.Inv) : (s.rxLen + 1).toNat = s.rxLen.toNat + 1 := by
  obtain ⟨-, hmax⟩ := h.cfgLegal.sysexMax_range
  obtain ⟨-, hlen⟩ := h.rxSize
  exact BitVec.toNat_add_of_lt (show s.rxLen.toNat + 1 < 2 ^ 8 by omega)

/-- While Accumulating the buffer holds a start byte. -/
theorem rxStarted (h : s.Inv) (hrx : s.rxInprog = true) : 1 ≤ s.rxLen.toNat ∧ s.rxBuf.getD 0 0 = startByte :=
  (if_pos hrx).mp h.rxShape

/-- A further byte leaves the start byte where it is. -/
theorem startByte_of_rxBuf_set (h : s.Inv) (hrx : s.rxInprog = true) (b : BitVec 8) :
    (s.rxBuf.set s.rxLen.toNat b).getD 0 0 = startByte := by
  obtain ⟨hpos, hstart⟩ := h.rxStarted hrx
  rw [← hstart, List.getD_eq_getElem?_getD, List.getElem?_set_ne (by omega), List.getD_eq_getElem?_getD]

/-- The invariant does not look at the ports. -/
theorem setPorts (h : s.Inv) (p : Ports) : (s.setPorts p).Inv := { h with }

/-- An answer with a status of the table keeps the invariant. -/
theorem answer (h : s.Inv) {x : BitVec 4} (hx : x.toNat ≤ 8 ∧ x.toNat ≠ 4) (d : BitVec 32) : (s.answer x d).Inv :=
  { h with status := hx }

end State.Inv

/-! ## Every command -/

namespace CommandEffect

variable {i : Instr} {s t : State}

/-- 60_exceptions.md R250, R254. -/
theorem status (h : CommandEffect s i t) : t.rstat.toNat ≤ 8 ∧ t.rstat.toNat ≠ 4 := by
  cases h with
  | refused _ x hx =>
    simp only [List.mem_cons, List.not_mem_nil, or_false] at hx
    exact (show x.toNat ≤ 8 ∧ x.toNat ≠ 4 by omega)
  | _ => exact (show (0#4).toNat ≤ 8 ∧ (0#4).toNat ≠ 4 by decide)

/-- 10_state.md R30, R31. -/
theorem chanInv (h : CommandEffect s i t) (hs : s.Inv) : ∀ c ∈ t.chans, c.Inv t.cfg.smoothN := by
  intro c hc
  obtain ⟨ch, hch, rfl⟩ := List.getElem_of_mem hc
  have hlt : ch < s.chans.length := h.chans_length ▸ hch
  have hold : (s.chan ch).Inv s.cfg.smoothN := s.chan_eq_getElem hlt ▸ hs.chanInv _ (List.getElem_mem hlt)
  rw [← t.chan_eq_getElem hch, h.cfg_eq]
  exact (h.chan_edit ch).inv hs.cfgLegal.smoothN_range.2 hold

/-- 43_param.md R224. -/
theorem slotInv (h : CommandEffect s i t) (hs : s.Inv) : ∀ p, p < t.cfg.paramCount → (t.slot p).Inv (t.cfg.pd p) := by
  rw [h.cfg_eq]
  exact fun p hp => (h.slot_edit p).inv (hs.cfgLegal.pd_legal hp) (hs.slotInv p hp)

/-- 10_state.md R34. -/
theorem rxSize (h : CommandEffect s i t) (hs : s.Inv) :
    t.rxBuf.length = t.cfg.sysexMax ∧ t.rxLen.toNat < t.cfg.sysexMax := by
  obtain ⟨hbuf, hlen⟩ := hs.rxSize
  obtain ⟨hmin, -⟩ := hs.cfgLegal.sysexMax_range
  cases h with
  | messageStarted => exact ⟨(List.length_set ..).trans hbuf, show 1 < s.cfg.sysexMax by omega⟩
  | messageDropped => exact ⟨(List.length_set ..).trans hbuf, show 0 < s.cfg.sysexMax by omega⟩
  | messageLatched => exact ⟨(List.length_set ..).trans hbuf, show 0 < s.cfg.sysexMax by omega⟩
  | byteAccumulated _ _ hroom =>
    rw [hs.rxLen_succ_toNat] at hroom
    exact ⟨(List.length_set ..).trans hbuf,
      hs.rxLen_succ_toNat.symm ▸ (show s.rxLen.toNat + 1 < s.cfg.sysexMax by omega)⟩
  | _ => exact ⟨hbuf, hlen⟩

/-- 42_serial.md R160. -/
theorem rxShape (h : CommandEffect s i t) (hs : s.Inv) :
    if t.rxInprog then 1 ≤ t.rxLen.toNat ∧ t.rxBuf.getD 0 0 = startByte else t.rxLen = 0 := by
  cases h with
  | messageStarted =>
    obtain ⟨hbuf, hlen⟩ := hs.rxSize
    have hne : 0 < s.rxBuf.length := by omega
    exact (if_pos rfl).mpr ⟨Nat.le_refl 1, show (s.rxBuf.set 0 0xF0#8).getD 0 0 = startByte by simp [hne, startByte]⟩
  | messageDropped | messageLatched => exact rfl
  | byteAccumulated b hrx =>
    exact (if_pos rfl).mpr ⟨hs.rxLen_succ_toNat.symm ▸ Nat.succ_pos _, hs.startByte_of_rxBuf_set hrx b⟩
  | _ => exact hs.rxShape

/-- 10_state.md R35. -/
theorem msgSize (h : CommandEffect s i t) (hs : s.Inv) :
    t.msg.length = t.cfg.sysexMax ∧ t.msgLen.toNat ≤ t.cfg.sysexMax := by
  cases h with
  | messageLatched =>
    obtain ⟨hbuf, hlen⟩ := hs.rxSize
    obtain ⟨hmsg, -⟩ := hs.msgSize
    have hsucc := hs.rxLen_succ_toNat
    constructor
    · simp [hbuf, hmsg]
      omega
    · exact hsucc.symm ▸ hlen
  | _ => exact hs.msgSize

/-- 42_serial.md R163, R164. -/
theorem msgShape (h : CommandEffect s i t) (hs : s.Inv) :
    if t.msgValid then validate t.msg t.msgLen.toNat = true ∧ t.msgByte 0 = startByte ∧
      t.msgByte (t.msgLen.toNat - 1) = endByte else t.msgLen = 0 := by
  cases h with
  | messageLatched d hrx hvalid =>
    obtain ⟨hbuf, hlen⟩ := hs.rxSize
    have hsucc := hs.rxLen_succ_toNat
    have hL : (s.rxLen + 1).toNat ≤ (s.rxBuf.set s.rxLen.toNat 0xF7#8).length := by
      rw [hsucc, List.length_set, hbuf]
      exact hlen
    have hlast : (s.rxBuf.set s.rxLen.toNat 0xF7#8).getD ((s.rxLen + 1).toNat - 1) 0 = endByte := by
      rw [hsucc, Nat.add_sub_cancel]
      simp [hbuf, hlen, endByte]
    exact (if_pos rfl).mpr ⟨(validate_take_append hL).trans hvalid,
      (getD_take_append hL (by omega)).trans (hs.startByte_of_rxBuf_set hrx _),
      (getD_take_append hL (show (s.rxLen + 1).toNat - 1 < _ by omega)).trans hlast⟩
  | _ => exact hs.msgShape

/-- 10_state.md R43. -/
theorem channelRange (h : CommandEffect s i t) (hs : s.Inv) : 1 ≤ t.channel.toNat ∧ t.channel.toNat ≤ 16 := by
  cases h with
  | channelWritten _ v hv =>
    have hfits : (v.setWidth 5).toNat = v.toNat := by
      rw [BitVec.toNat_setWidth]
      omega
    exact hfits.symm ▸ hv
  | _ => exact hs.channelRange

/-- Every command keeps the invariant. -/
theorem inv (h : CommandEffect s i t) (hs : s.Inv) : t.Inv where
  cfgLegal := h.cfg_eq ▸ hs.cfgLegal
  status := h.status
  chanCount := h.chans_length.trans (h.cfg_eq ▸ hs.chanCount)
  chanInv := h.chanInv hs
  buttonCount := h.buttons_length.trans (h.cfg_eq ▸ hs.buttonCount)
  rxSize := h.rxSize hs
  rxShape := h.rxShape hs
  msgSize := h.msgSize hs
  msgShape := h.msgShape hs
  slotCount := h.slots_length.trans (h.cfg_eq ▸ hs.slotCount)
  slotInv := h.slotInv hs
  channelRange := h.channelRange hs

end CommandEffect

/-! ## Reset and the step -/

/-- Settles O59: the lists have their sizes and the elements their invariants; the framer is Idle and nothing is
latched. -/
theorem resetHasTheInvariant : Obligations.ResetHasTheInvariant := fun c hc =>
  { cfgLegal := hc
    status := show (0#4).toNat ≤ 8 ∧ (0#4).toNat ≠ 4 by decide
    chanCount := State.resetOf_chans_length c
    chanInv := fun x hx => State.eq_atReset_of_mem_chans hx ▸ Channel.atReset_inv hc.smoothN_range.1
    buttonCount := State.resetOf_buttons_length c
    rxSize := ⟨List.length_replicate, Nat.lt_of_lt_of_le (show 0 < 7 by decide) hc.sysexMax_range.1⟩
    rxShape := rfl
    msgSize := ⟨List.length_replicate, Nat.zero_le _⟩
    msgShape := rfl
    slotCount := State.resetOf_slots_length hc
    slotInv := fun p hp => State.resetOf_slot c p ▸ Slot.atReset_inv (hc.pd_legal hp)
    channelRange := show 1 ≤ (1#5).toNat ∧ (1#5).toNat ≤ 16 by decide }

/-- The reset input leaves a state with the invariant. -/
theorem State.Inv.resetNow {s : State} (h : s.Inv) : s.resetNow.Inv :=
  (resetHasTheInvariant s.cfg h.cfgLegal).setPorts s.ports

/-- Settles O58, by what a step can have done: a command keeps the invariant by its effect, an illegal word only answers, a
reset of either kind leaves a reset state with some ports. -/
theorem everyStepKeepsTheInvariant : Obligations.EveryStepKeepsTheInvariant := by
  intro s t hs hstep
  have htaken : (s.setPorts s.ports.takeEvent).Inv := hs.setPorts _
  obtain ⟨-, ⟨-, rfl⟩ | ⟨e, rest, -, hserved⟩⟩ := step_cases hstep
  · exact ⟨hs, rfl⟩
  · obtain ⟨w, i, -, -, hexec⟩ | ⟨w, why, -, -, rfl⟩ | ⟨-, rfl⟩ | ⟨w, u, -, -, rfl⟩ := hserved
    · have heffect := CommandEffect.of_exec hexec
      exact ⟨heffect.inv htaken, heffect.cfg_eq⟩
    · exact ⟨htaken.answer (by decide) 0, rfl⟩
    · exact ⟨htaken.resetNow, rfl⟩
    · exact ⟨htaken.resetNow.setPorts _, rfl⟩

end Sys2Proof.Machine
end

section
/-! PROOFS. What a step does with a command word (10_state.md R22), and what no command reads: RSTAT and RDATA (R20), and the
bytes of RX_BUF at and above RX_LEN (R34, R41). -/

namespace Sys2Proof.Machine

/-! ## A command word -/

theorem runWord_command {w : Word} {i : Instr} (h : decode w = .command i) (s : State) : runWord w s = exec i s := by
  simp only [runWord, h]

theorem runWord_illegal {w : Word} {why : IllegalReason} (h : decode w = .illegal why) (s : State) :
    runWord w s = .next (s.answer 7 0) := by
  simp only [runWord, h]
  rfl

/-- Settles O6: the step takes the word from the port and runs it. -/
theorem stepRunsTheDecodedCommand : Obligations.StepRunsTheDecodedCommand := by
  intro s w rest hl hc
  have hstep : step s = runWord w (s.setPorts { s.ports with cmdIn := rest }) := by
    rw [step_event hl hc, Ports.takeEvent_cons hc]
    rfl
  exact ⟨fun i hi => hstep.trans (runWord_command hi _), fun why hwhy => hstep.trans (runWord_illegal hwhy _)⟩

/-! ## RSTAT and RDATA -/

/-- AN_CAL aside, a command's meaning names RSTAT and RDATA only in the answer that replaces them; AN_CAL's samples carry
them along to it. -/
theorem exec_answer (i : Instr) (s : State) (x : BitVec 4) (d : BitVec 32) : exec i (s.answer x d) = exec i s := by
  cases i with
  | anCal =>
    have hcal : (s.answer x d).calChannels s.cfg.numCh = (s.calChannels s.cfg.numCh).answer x d :=
      State.calChannels_comm (f := (·.answer x d)) (fun _ => rfl) (fun _ _ => rfl) _ s
    exact (congrArg (fun t : State => Host.Outcome.next (t.resetSmoothers.ok 0)) hcal).trans rfl
  | _ => rfl

/-- Settles O57. -/
theorem resultRegistersAreWrittenAndNeverRead : Obligations.ResultRegistersAreWrittenAndNeverRead :=
  ⟨exec_answer, fun _ => ⟨rfl, rfl⟩⟩

/-! ## The bytes of RX_BUF -/

/-- The state with other bytes in RX_BUF. -/
def State.withRxBuf (s : State) (buf : List (BitVec 8)) : State := { s with rxBuf := buf }

/-- What it is to be the same but for the tail of RX_BUF. -/
theorem State.sameButRxTail_iff {s u : State} : s.SameButRxTail u ↔
    ∃ buf, u = s.withRxBuf buf ∧ buf.length = s.rxBuf.length ∧
      ∀ k, k < s.rxLen.toNat → buf.getD k 0 = s.rxBuf.getD k 0 := by
  constructor
  · rintro ⟨hu, hlen, hbytes⟩
    exact ⟨u.rxBuf, hu, hlen, hbytes⟩
  · rintro ⟨buf, rfl, hlen, hbytes⟩
    exact ⟨rfl, hlen, hbytes⟩

theorem State.SameButRxTail.refl (s : State) : s.SameButRxTail s := ⟨rfl, rfl, fun _ _ => rfl⟩

/-! ### Every command but RX_BYTE -/

section Unread

variable {s : State} {buf : List (BitVec 8)}

/-- RX_BUF goes through a check that does not look at it. -/
theorem ite_withRxBuf {c : Prop} [Decidable c] {a b a' b' : State} (ha : a' = a.withRxBuf buf)
    (hb : b' = b.withRxBuf buf) : (if c then a' else b') = (if c then a else b).withRxBuf buf := by
  split
  · exact ha
  · exact hb

theorem State.crWrite_withRxBuf (v : BitVec 16) (n : Nat) :
    (s.withRxBuf buf).crWrite v n = (s.crWrite v n).withRxBuf buf := by
  unfold State.crWrite
  split
  case h_5 => rfl
  all_goals exact ite_withRxBuf rfl rfl

theorem State.limitedSend_withRxBuf (p : Nat) (bytes : List (BitVec 8)) :
    (s.withRxBuf buf).limitedSend p bytes = (s.limitedSend p bytes).withRxBuf buf := ite_withRxBuf rfl rfl

/-- AN_CAL's samples carry RX_BUF along. -/
theorem State.calChannels_withRxBuf (n : Nat) :
    (s.withRxBuf buf).calChannels n = (s.calChannels n).withRxBuf buf :=
  State.calChannels_comm (f := (·.withRxBuf buf)) (fun _ => rfl) (fun _ _ => rfl) n s

theorem next_congr {a b : State} (h : a = b) : (.next a : Host.Outcome State Fault Refusal) = .next b :=
  congrArg Host.Outcome.next h

/-- A command other than RX_BYTE does to a state with other bytes in RX_BUF what it does to the state, and leaves the
bytes. -/
theorem exec_withRxBuf {i : Instr} (hi : i.mnemonic ≠ .rxByte) :
    ∃ t, exec i s = .next t ∧ exec i (s.withRxBuf buf) = .next (t.withRxBuf buf) := by
  cases i with
  | rxByte => exact absurd rfl hi
  | nop => exact ⟨_, rfl, rfl⟩
  | anRead ch => exact ⟨_, rfl, next_congr (ite_withRxBuf rfl rfl)⟩
  | anGet ch => exact ⟨_, rfl, next_congr (ite_withRxBuf rfl rfl)⟩
  | anChanged ch => exact ⟨_, rfl, next_congr (ite_withRxBuf rfl rfl)⟩
  | anCal => exact ⟨_, rfl, (congrArg (fun t : State => Host.Outcome.next (t.resetSmoothers.ok 0))
      (State.calChannels_withRxBuf _)).trans rfl⟩
  | anCalrd ch => exact ⟨_, rfl, next_congr (ite_withRxBuf rfl rfl)⟩
  | smUpdate ch v => exact ⟨_, rfl, next_congr (ite_withRxBuf rfl rfl)⟩
  | smReset ch => exact ⟨_, rfl, next_congr (ite_withRxBuf rfl rfl)⟩
  | norm ch v => exact ⟨_, rfl, next_congr (ite_withRxBuf rfl rfl)⟩
  | hyst cur prev thr => exact ⟨_, rfl, rfl⟩
  | btPoll => exact ⟨_, rfl, rfl⟩
  | btState j => exact ⟨_, rfl, next_congr (ite_withRxBuf rfl rfl)⟩
  | btPressed j => exact ⟨_, rfl, next_congr (ite_withRxBuf rfl rfl)⟩
  | btReleased j => exact ⟨_, rfl, next_congr (ite_withRxBuf rfl rfl)⟩
  | rxRd k => exact ⟨_, rfl, next_congr (ite_withRxBuf rfl rfl)⟩
  | rxDt1 => exact ⟨_, rfl, next_congr (ite_withRxBuf rfl rfl)⟩
  | csClr => exact ⟨_, rfl, rfl⟩
  | csAdd b => exact ⟨_, rfl, rfl⟩
  | csGen => exact ⟨_, rfl, rfl⟩
  | csVer c => exact ⟨_, rfl, next_congr (ite_withRxBuf rfl rfl)⟩
  | txCc p a b => exact ⟨_, rfl, next_congr (ite_withRxBuf rfl (State.limitedSend_withRxBuf _ _))⟩
  | txPc b => exact ⟨_, rfl, rfl⟩
  | txDt1 p b => exact ⟨_, rfl, next_congr (ite_withRxBuf rfl (State.limitedSend_withRxBuf _ _))⟩
  | txRq1 => exact ⟨_, rfl, rfl⟩
  | txSeta h m l => exact ⟨_, rfl, rfl⟩
  | txSets h m l => exact ⟨_, rfl, rfl⟩
  | pdUpdate p imm => exact ⟨_, rfl, next_congr (ite_withRxBuf rfl (ite_withRxBuf rfl rfl))⟩
  | pdGet p => exact ⟨_, rfl, next_congr (ite_withRxBuf rfl rfl)⟩
  | pdPrev p => exact ⟨_, rfl, next_congr (ite_withRxBuf rfl rfl)⟩
  | crRd r => exact ⟨_, rfl, next_congr (ite_withRxBuf rfl rfl)⟩
  | crWr r imm => exact ⟨_, rfl, next_congr (ite_withRxBuf rfl (State.crWrite_withRxBuf _ _))⟩

end Unread

/-! ### RX_BYTE -/

/-- Two branches that are the same but for the tail of RX_BUF, chosen by one test. -/
theorem State.sameButRxTail_ite {c : Prop} [Decidable c] {a b a' b' : State} (ha : a.SameButRxTail a')
    (hb : b.SameButRxTail b') : (if c then a else b).SameButRxTail (if c then a' else b') := by
  split
  · exact ha
  · exact hb

/-- Lists of one length that agree below `n` still do with one more byte written at `n` in both. -/
theorem getD_set_eq_of_lt_succ {B B' : List (BitVec 8)} {n : Nat} (hlen : B'.length = B.length)
    (h : ∀ k, k < n → B'.getD k 0 = B.getD k 0) (b : BitVec 8) :
    ∀ k, k < n + 1 → (B'.set n b).getD k 0 = (B.set n b).getD k 0 := by
  intro k hk
  obtain hlt | rfl := Nat.lt_succ_iff_lt_or_eq.mp hk
  · have hne : n ≠ k := (Nat.ne_of_lt hlt).symm
    simpa [List.getElem?_set_ne hne] using h k hlt
  · simp [List.getElem?_set, hlen]

/-- Lists of one length that agree below `n` have the same first `n` elements. -/
theorem take_eq_take_of_getD_eq {B B' : List (BitVec 8)} {n : Nat} (hlen : B'.length = B.length)
    (h : ∀ k, k < n → B'.getD k 0 = B.getD k 0) : B'.take n = B.take n := by
  refine List.ext_getElem (by simp [hlen]) fun k hk hk' => ?_
  obtain ⟨hn, hB⟩ := Nat.lt_min.mp (List.length_take ▸ hk')
  simpa [hB, hlen] using h k hn

section RxByte

variable {s : State} {buf : List (BitVec 8)}

/-- RX_BYTE while Accumulating writes its byte at RX_LEN and then looks at the bytes up to it only. -/
theorem State.rxAppend_sameButRxTail (hs : s.Inv) (hlen : buf.length = s.rxBuf.length)
    (hbytes : ∀ k, k < s.rxLen.toNat → buf.getD k 0 = s.rxBuf.getD k 0) (b : BitVec 8) :
    (s.rxAppend b).SameButRxTail ((s.withRxBuf buf).rxAppend b) := by
  have hlen' : (buf.set s.rxLen.toNat b).length = (s.rxBuf.set s.rxLen.toNat b).length := by simpa using hlen
  have hbytes' : ∀ k, k < (s.rxLen + 1).toNat →
      (buf.set s.rxLen.toNat b).getD k 0 = (s.rxBuf.set s.rxLen.toNat b).getD k 0 := by
    rw [hs.rxLen_succ_toNat]
    exact getD_set_eq_of_lt_succ hlen hbytes b
  have htake := take_eq_take_of_getD_eq hlen' hbytes'
  have hvalid : validate (buf.set s.rxLen.toNat b) (s.rxLen + 1).toNat =
      validate (s.rxBuf.set s.rxLen.toNat b) (s.rxLen + 1).toNat := by
    rw [← validate_take, htake, validate_take]
  have hdropped : ∀ k, k < (0#8).toNat →
      (buf.set s.rxLen.toNat b).getD k 0 = (s.rxBuf.set s.rxLen.toNat b).getD k 0 :=
    fun k hk => absurd hk (Nat.not_lt_zero k)
  have hterminated : (s.rxTerminate (s.rxBuf.set s.rxLen.toNat b) (s.rxLen + 1)).SameButRxTail
      ((s.withRxBuf buf).rxTerminate (buf.set s.rxLen.toNat b) (s.rxLen + 1)) := by
    simp only [State.rxTerminate, hvalid, htake]
    exact sameButRxTail_ite ⟨rfl, hlen', hdropped⟩ ⟨rfl, hlen', hdropped⟩
  exact sameButRxTail_ite hterminated
    (sameButRxTail_ite ⟨rfl, hlen', hdropped⟩ ⟨rfl, hlen', hbytes'⟩)

/-- RX_BYTE in all: a start byte in Idle is written at 0, the one byte below the new RX_LEN. -/
theorem State.rxByte_sameButRxTail (hs : s.Inv) (hlen : buf.length = s.rxBuf.length)
    (hbytes : ∀ k, k < s.rxLen.toNat → buf.getD k 0 = s.rxBuf.getD k 0) (b : BitVec 8) :
    (s.rxByte b).SameButRxTail ((s.withRxBuf buf).rxByte b) := by
  have hstarted : ∀ k, k < (1#8).toNat → (buf.set 0 startByte).getD k 0 = (s.rxBuf.set 0 startByte).getD k 0 :=
    getD_set_eq_of_lt_succ hlen (fun k hk => absurd hk (Nat.not_lt_zero k)) startByte
  exact sameButRxTail_ite ⟨rfl, hlen, hbytes⟩ (sameButRxTail_ite (rxAppend_sameButRxTail hs hlen hbytes b)
    (sameButRxTail_ite ⟨rfl, by simpa [State.withRxBuf] using hlen, hstarted⟩ ⟨rfl, hlen, hbytes⟩))

end RxByte

/-! ### Every command and every step -/

/-- A command on two states that are the same but for the tail of RX_BUF. -/
theorem exec_sameButRxTail {i : Instr} {s t u : State} (hs : s.Inv) (h : s.SameButRxTail u)
    (hexec : exec i s = .next t) : ∃ v, exec i u = .next v ∧ t.SameButRxTail v := by
  obtain ⟨buf, rfl, hlen, hbytes⟩ := State.sameButRxTail_iff.mp h
  by_cases hi : i.mnemonic = .rxByte
  · cases i with
    | rxByte b =>
      cases hexec
      exact ⟨_, rfl, State.rxByte_sameButRxTail hs hlen hbytes b⟩
    | _ => exact nomatch hi
  · obtain ⟨t', ht', hu⟩ := exec_withRxBuf (s := s) (buf := buf) hi
    obtain rfl : t' = t := Host.Outcome.next.inj (ht'.symm.trans hexec)
    obtain ⟨-, hrxLen, hrxBuf, -⟩ := (CommandEffect.of_exec hexec).framer_eq hi
    exact ⟨_, hu, State.sameButRxTail_iff.mpr ⟨buf, rfl, hrxBuf ▸ hlen, hrxLen ▸ hrxBuf ▸ hbytes⟩⟩

/-- A command word on two such states. -/
theorem runWord_sameButRxTail {w : Word} {s t u : State} (hs : s.Inv) (h : s.SameButRxTail u)
    (hrun : runWord w s = .next t) : ∃ v, runWord w u = .next v ∧ t.SameButRxTail v := by
  cases hd : decode w with
  | command i =>
    rw [runWord_command hd] at hrun ⊢
    exact exec_sameButRxTail hs h hrun
  | illegal why =>
    rw [runWord_illegal hd] at hrun ⊢
    cases hrun
    obtain ⟨buf, rfl, hlen, hbytes⟩ := State.sameButRxTail_iff.mp h
    exact ⟨_, rfl, rfl, hlen, hbytes⟩

/-- With nothing waiting the block idles (60_exceptions.md R261). -/
theorem step_idle {s : State} (hl : s.cfg.Legal) (hc : s.ports.cmdIn = []) : step s = .next s := by
  simp only [step, serve, if_pos hl, hc]

/-- Settles O60, by what the step can have done from the one state: both idle; both run the word; or both are reset, which
leaves the same RX_BUF. -/
theorem rxBufTailIsUnobservable : Obligations.RxBufTailIsUnobservable := by
  intro s t u hs h hstep
  obtain ⟨buf, rfl, hlen, hbytes⟩ := State.sameButRxTail_iff.mp h
  obtain ⟨hl, ⟨hc, rfl⟩ | ⟨e, rest, hc, hserved⟩⟩ := step_cases hstep
  · exact ⟨_, step_idle hl hc, h⟩
  · have htaken : (s.setPorts s.ports.takeEvent).Inv := hs.setPorts _
    have hsame : (s.setPorts s.ports.takeEvent).SameButRxTail ((s.withRxBuf buf).setPorts s.ports.takeEvent) :=
      ⟨rfl, hlen, hbytes⟩
    have hu : step (s.withRxBuf buf) = serveEvent e ((s.withRxBuf buf).setPorts s.ports.takeEvent) :=
      step_event (s := s.withRxBuf buf) hl hc
    rw [hu]
    obtain ⟨w, i, rfl, hd, hexec⟩ | ⟨w, why, rfl, hd, rfl⟩ | ⟨rfl, rfl⟩ | ⟨w, x, rfl, hrun, rfl⟩ := hserved
    · exact runWord_sameButRxTail htaken hsame ((runWord_command hd _).trans hexec)
    · exact runWord_sameButRxTail htaken hsame (runWord_illegal hd _)
    · exact ⟨_, rfl, State.SameButRxTail.refl _⟩
    · obtain ⟨y, hy, hxy⟩ := runWord_sameButRxTail htaken hsame hrun
      obtain ⟨_, rfl, -, -⟩ := State.sameButRxTail_iff.mp hxy
      simp only [serveEvent, abortWord, hy]
      exact ⟨_, rfl, State.SameButRxTail.refl _⟩

end Sys2Proof.Machine
end

section
/-! PROOFS. The indexed state (20_memory.md R60, R64): an index outside its space is refused, a pure read changes the
result registers alone, and a command that names one element leaves the others. -/

namespace Sys2Proof.Machine

/-! ## The index check -/

/-- The check that the commands of an index space make on their index operand (20_memory.md R60). -/
abbrev State.onIndex (s : State) : IndexSpace → BitVec 10 → (Nat → State) → State
  | .channel => s.onChannel
  | .button => s.onButton
  | .message => s.onMessage
  | .slot => s.onSlot
  | .register => s.onRegister

/-- A command with an index checks it, in the index's space, before it does anything else. -/
theorem exec_eq_onIndex {i : Instr} {space : IndexSpace} {k : Nat} (hi : i.index = some (space, k)) (s : State) :
    ∃ (j : BitVec 10) (body : Nat → State), j.toNat = k ∧ exec i s = .next (s.onIndex space j body) := by
  cases i with
  | nop | anCal | hyst | btPoll | rxByte | rxDt1 | csClr | csAdd | csGen | csVer | txPc | txRq1 | txSeta | txSets =>
    exact nomatch hi
  | _ =>
    cases hi
    exact ⟨_, _, rfl, rfl⟩

theorem State.onMessage_of_le (s : State) (body : Nat → State) {j : BitVec 10}
    (h : (if s.msgValid then s.msgLen.toNat else 0) ≤ j.toNat) : s.onMessage j body = s.answer 8 0 := by
  refine if_pos ?_
  cases hvalid : s.msgValid with
  | false => exact .inl rfl
  | true => exact .inr (by simpa [hvalid] using h)

theorem State.onRegister_of_le (s : State) (body : Nat → State) {r : BitVec 10} (h : 8 ≤ r.toNat) :
    s.onRegister r body = s.answer 8 0 := if_pos h

/-- The check refuses an index outside the space: INVALID_PARAM for a slot, BAD_INDEX for every other space
(60_exceptions.md R253). -/
theorem State.onIndex_of_size_le (s : State) (body : Nat → State) {space : IndexSpace} {j : BitVec 10}
    (h : space.size s.cfg (if s.msgValid then s.msgLen.toNat else 0) ≤ j.toNat) :
    s.onIndex space j body = s.answer (if space = .slot then 2 else 8) 0 := by
  cases space with
  | channel => exact s.onChannel_of_le body h
  | button => exact s.onButton_of_le body h
  | message => exact s.onMessage_of_le body h
  | slot => exact s.onSlot_of_le body h
  | register => exact s.onRegister_of_le body h

/-- Settles O52: the command is its index check, and the check refuses. -/
theorem badIndicesAreRefusedFirst : Obligations.BadIndicesAreRefusedFirst := by
  intro i s space k hindex hsize
  obtain ⟨j, body, rfl, hexec⟩ := exec_eq_onIndex hindex s
  rw [hexec, s.onIndex_of_size_le body hsize]

/-! ## The pure reads -/

/-- The pure reads of 20_memory.md R64. -/
def Mnemonic.pureReads : List Mnemonic :=
  [.nop, .anGet, .anCalrd, .norm, .hyst, .btState, .btPressed, .btReleased, .rxRd, .rxDt1, .csGen, .csVer, .pdGet,
    .pdPrev, .crRd]

/-- Of what a command can do, a refusal and a plain answer alone are open to a pure read. -/
theorem CommandEffect.eq_answer_of_pureRead {i : Instr} {s t : State} (h : CommandEffect s i t)
    (hi : i.mnemonic ∈ Mnemonic.pureReads) : t = s.answer t.rstat t.rdata := by
  cases h with
  | refused | answered => rfl
  | checksumSet _ hm | sendSuppressed _ hm | sentOnSlot _ hm | sent _ hm =>
    rcases hm with hm | hm <;> exact absurd (hm ▸ hi) (by decide)
  | _ => simp [Instr.mnemonic, Mnemonic.pureReads] at hi

/-- Settles O53: a pure read answers, and no command reads the answer before it. -/
theorem pureReadsAreIdempotent : Obligations.PureReadsAreIdempotent := by
  intro i s t hi hexec
  have hanswer : t = s.answer t.rstat t.rdata := (CommandEffect.of_exec hexec).eq_answer_of_pureRead hi
  refine ⟨hanswer, ?_⟩
  calc exec i t = exec i (s.answer t.rstat t.rdata) := congrArg (exec i) hanswer
    _ = exec i s := exec_answer i s _ _
    _ = .next t := hexec

/-! ## The elements a command does not name -/

/-- AN_CAL aside, a command edits no channel but the one it names. -/
theorem CommandEffect.chan_eq_of_index_ne {i : Instr} {s t : State} (h : CommandEffect s i t) (hi : i ≠ .anCal)
    {ch : Nat} (hch : i.index ≠ some (.channel, ch)) : t.chan ch = s.chan ch := by
  cases h with
  | channelRead | flagCleared | smootherFed | smootherReset =>
    exact State.chan_setChan_ne _ _ fun hnamed => hch (hnamed ▸ rfl)
  | calibrated => exact absurd rfl hi
  | _ => rfl

/-- TX_CC and TX_DT1 are a rate-limited send on the slot they name (42_serial.md R181, R183). -/
theorem exec_eq_limitedSend {i : Instr} (hi : i.mnemonic = .txCc ∨ i.mnemonic = .txDt1) (s : State) :
    ∃ (q : BitVec 10) (bytes : List (BitVec 8)), i.index = some (.slot, q.toNat) ∧
      exec i s = .next (s.onSlot q fun p => s.limitedSend p bytes) := by
  cases i with
  | txCc q a b => exact ⟨q, s.ccBytes a b, rfl, rfl⟩
  | txDt1 q b => exact ⟨q, s.dt1Bytes b, rfl, rfl⟩
  | _ => simp [Instr.mnemonic] at hi

theorem State.limitedSend_slot_ne (s : State) {q p : Nat} (bytes : List (BitVec 8)) (h : q ≠ p) :
    (s.limitedSend q bytes).slot p = s.slot p := by
  obtain ⟨-, hsend⟩ | ⟨-, hsend⟩ := s.limitedSend_cases q bytes
  · exact hsend ▸ State.slot_setSlot_ne _ _ h
  · exact hsend ▸ rfl

/-- A rate-limited send marks no slot but the one it names. -/
theorem slot_eq_of_limitedSend {i : Instr} (hi : i.mnemonic = .txCc ∨ i.mnemonic = .txDt1) {s t : State}
    (hexec : exec i s = .next t) {p : Nat} (hp : i.index ≠ some (.slot, p)) : t.slot p = s.slot p := by
  obtain ⟨q, bytes, hindex, hsend⟩ := exec_eq_limitedSend hi s
  have hne : q.toNat ≠ p := fun hnamed => hp (hnamed ▸ hindex)
  cases hexec.symm.trans hsend
  obtain ⟨-, h⟩ | ⟨-, h⟩ := s.onSlot_cases (fun p => s.limitedSend p bytes) q
  · exact h ▸ s.limitedSend_slot_ne bytes hne
  · exact h ▸ rfl

/-- A command edits no slot but the one it names. -/
theorem slot_eq_of_index_ne {i : Instr} {s t : State} (hexec : exec i s = .next t) {p : Nat}
    (hp : i.index ≠ some (.slot, p)) : t.slot p = s.slot p := by
  cases CommandEffect.of_exec hexec with
  | sentOnSlot _ hi => exact slot_eq_of_limitedSend hi hexec hp
  | slotFiltered | slotCommitted => exact State.slot_setSlot_ne _ _ fun hnamed => hp (hnamed ▸ rfl)
  | _ => rfl

/-- Settles O55. -/
theorem indexedCommandsTouchOneElement : Obligations.IndexedCommandsTouchOneElement := by
  intro i s t hexec
  have h := CommandEffect.of_exec hexec
  exact ⟨fun hi _ hch => h.chan_eq_of_index_ne hi hch, fun _ hp => slot_eq_of_index_ne hexec hp, h.chans_length,
    h.slots_length, h.buttons_length⟩

end Sys2Proof.Machine
end

section
/-! PROOFS. The encoding (30_encoding.md R80 to R86): a word is its opcode, its operand fields and its reserved field. From
that: what each row of R84 matches, what the decoder answers, and that it undoes the encoder. -/

namespace Sys2Proof

/-! ## A word by its fields -/

theorem append_eq_iff {m n : Nat} {a : BitVec m} {b : BitVec n} {x : BitVec (m + n)} :
    a ++ b = x ↔ a = x.extractLsb' n m ∧ b = x.extractLsb' 0 n := by
  constructor
  · rintro rfl
    exact ⟨BitVec.extractLsb'_append_eq_left.symm, BitVec.extractLsb'_append_eq_right.symm⟩
  · rintro ⟨rfl, rfl⟩
    rw [BitVec.extractLsb'_append_extractLsb'_eq_extractLsb' (Nat.zero_add n).symm, BitVec.extractLsb'_eq_self]

/-- Two words are equal when their opcodes and their other 26 bits are. -/
theorem word_eq_iff {w v : Word} : w = v ↔ opField w = opField v ∧ w.extractLsb' 0 26 = v.extractLsb' 0 26 := by
  have hw : opField w ++ w.extractLsb' 0 26 = w := append_eq_iff.mpr ⟨rfl, rfl⟩
  calc w = v ↔ opField w ++ w.extractLsb' 0 26 = v := by rw [hw]
    _ ↔ _ := append_eq_iff

theorem opField_and (w v : Word) : opField (w &&& v) = opField w &&& opField v := BitVec.extractLsb'_and

/-- A word has no 1 in a block of bits exactly when the field cut out there is zero. -/
theorem and_block_eq_zero_iff {w : Word} {start len : Nat} (h : start + len ≤ 32) :
    w &&& (BitVec.allOnes len).setWidth 32 <<< start = 0#32 ↔ w.extractLsb' start len = 0#len := by
  constructor
  · intro hw
    ext j hj
    have hbit := congrArg (fun x : Word => x.getLsbD (start + j)) hw
    simpa [show start + j < 32 by omega, hj] using hbit
  · intro hw
    ext i hi
    by_cases hin : start ≤ i ∧ i - start < len
    · have hbit : w[i] = false := by
        simpa [hin, hi, Nat.add_sub_cancel' hin.1] using congrArg (fun x : BitVec len => x.getLsbD (i - start)) hw
      simp [hbit]
    · simp
      omega

/-! ## The formats: when a format's word is a given word (R81) -/

section Formats

variable {op : BitVec 6} {w : Word}

theorem encN_eq_iff : encN op = w ↔ op = opField w ∧ 0#26 = w.extractLsb' 0 26 := append_eq_iff

theorem encX_eq_iff {idx : BitVec 10} :
    encX op idx = w ↔ op = opField w ∧ idx = idxField w ∧ 0#16 = w.extractLsb' 0 16 := by
  rw [encX, append_eq_iff, append_eq_iff]
  simp [opField, idxField]

theorem encV_eq_iff {idx v : BitVec 10} :
    encV op idx v = w ↔ op = opField w ∧ idx = idxField w ∧ 0#6 = w.extractLsb' 10 6 ∧ v = vField w := by
  rw [encV, append_eq_iff, append_eq_iff, append_eq_iff]
  simp [opField, idxField, vField]

theorem encH_eq_iff {cur prev : BitVec 10} {thr : BitVec 6} :
    encH op cur prev thr = w ↔ op = opField w ∧ cur = idxField w ∧ prev = prevField w ∧ thr = thrField w := by
  rw [encH, append_eq_iff, append_eq_iff, append_eq_iff]
  simp [opField, idxField, prevField, thrField]

theorem encB_eq_iff {b : BitVec 8} :
    encB op b = w ↔ op = opField w ∧ 0#18 = w.extractLsb' 8 18 ∧ b = bField w := by
  rw [encB, append_eq_iff, append_eq_iff]
  simp [opField, bField]

theorem encT_eq_iff {p : BitVec 10} {a b : BitVec 8} :
    encT op p a b = w ↔ op = opField w ∧ p = idxField w ∧ a = aField w ∧ b = bField w := by
  rw [encT, append_eq_iff, append_eq_iff, append_eq_iff]
  simp [opField, idxField, aField, bField]

theorem encP_eq_iff {p : BitVec 10} {b : BitVec 8} :
    encP op p b = w ↔ op = opField w ∧ p = idxField w ∧ 0#8 = w.extractLsb' 8 8 ∧ b = bField w := by
  rw [encP, append_eq_iff, append_eq_iff, append_eq_iff]
  simp [opField, idxField, bField]

theorem encA_eq_iff {h m l : BitVec 7} :
    encA op h m l = w ↔
      op = opField w ∧ 0#5 = w.extractLsb' 21 5 ∧ h = hField w ∧ m = mField w ∧ l = lField w := by
  rw [encA, append_eq_iff, append_eq_iff, append_eq_iff, append_eq_iff]
  simp [opField, hField, mField, lField]

theorem encI_eq_iff {idx : BitVec 10} {imm : BitVec 16} :
    encI op idx imm = w ↔ op = opField w ∧ idx = idxField w ∧ imm = immField w := by
  rw [encI, append_eq_iff, append_eq_iff]
  simp [opField, idxField, immField]

end Formats

/-! ## Reading the operand fields back -/

section Fields

variable (op : BitVec 6)

@[simp] theorem idxField_encX (idx : BitVec 10) : idxField (encX op idx) = idx := by
  obtain ⟨-, hidx, -⟩ := encX_eq_iff.mp (Eq.refl (encX op idx))
  exact hidx.symm

@[simp] theorem encV_fields (idx v : BitVec 10) : idxField (encV op idx v) = idx ∧ vField (encV op idx v) = v := by
  obtain ⟨-, hidx, -, hv⟩ := encV_eq_iff.mp (Eq.refl (encV op idx v))
  exact ⟨hidx.symm, hv.symm⟩

@[simp] theorem encH_fields (cur prev : BitVec 10) (thr : BitVec 6) : idxField (encH op cur prev thr) = cur ∧
    prevField (encH op cur prev thr) = prev ∧ thrField (encH op cur prev thr) = thr := by
  obtain ⟨-, hcur, hprev, hthr⟩ := encH_eq_iff.mp (Eq.refl (encH op cur prev thr))
  exact ⟨hcur.symm, hprev.symm, hthr.symm⟩

@[simp] theorem bField_encB (b : BitVec 8) : bField (encB op b) = b := by
  obtain ⟨-, -, hb⟩ := encB_eq_iff.mp (Eq.refl (encB op b))
  exact hb.symm

@[simp] theorem encT_fields (p : BitVec 10) (a b : BitVec 8) :
    idxField (encT op p a b) = p ∧ aField (encT op p a b) = a ∧ bField (encT op p a b) = b := by
  obtain ⟨-, hp, ha, hb⟩ := encT_eq_iff.mp (Eq.refl (encT op p a b))
  exact ⟨hp.symm, ha.symm, hb.symm⟩

@[simp] theorem encP_fields (p : BitVec 10) (b : BitVec 8) :
    idxField (encP op p b) = p ∧ bField (encP op p b) = b := by
  obtain ⟨-, hp, -, hb⟩ := encP_eq_iff.mp (Eq.refl (encP op p b))
  exact ⟨hp.symm, hb.symm⟩

@[simp] theorem encA_fields (h m l : BitVec 7) :
    hField (encA op h m l) = h ∧ mField (encA op h m l) = m ∧ lField (encA op h m l) = l := by
  obtain ⟨-, -, hh, hm, hl⟩ := encA_eq_iff.mp (Eq.refl (encA op h m l))
  exact ⟨hh.symm, hm.symm, hl.symm⟩

@[simp] theorem encI_fields (idx : BitVec 10) (imm : BitVec 16) :
    idxField (encI op idx imm) = idx ∧ immField (encI op idx imm) = imm := by
  obtain ⟨-, hidx, himm⟩ := encI_eq_iff.mp (Eq.refl (encI op idx imm))
  exact ⟨hidx.symm, himm.symm⟩

end Fields

/-- The fields R81 gives a command's format hold its operands in the command's word. -/
theorem extract_encode (i : Instr) : extract (encode i) i.mnemonic = i := by
  cases i with
  | nop | anCal | btPoll | rxDt1 | csClr | csGen | txRq1 => rfl
  | anRead | anGet | anChanged | anCalrd | smReset | btState | btPressed | btReleased | rxRd | pdGet | pdPrev | crRd =>
    simp only [encode, Instr.mnemonic, extract, idxField_encX]
  | smUpdate | norm => simp only [encode, Instr.mnemonic, extract, encV_fields]
  | hyst => simp only [encode, Instr.mnemonic, extract, encH_fields]
  | rxByte | csAdd | csVer | txPc => simp only [encode, Instr.mnemonic, extract, bField_encB]
  | txCc => simp only [encode, Instr.mnemonic, extract, encT_fields]
  | txDt1 => simp only [encode, Instr.mnemonic, extract, encP_fields]
  | txSeta | txSets => simp only [encode, Instr.mnemonic, extract, encA_fields]
  | pdUpdate | crWr => simp only [encode, Instr.mnemonic, extract, encI_fields]

@[simp] theorem extract_mnemonic (w : Word) (m : Mnemonic) : (extract w m).mnemonic = m := by
  cases m <;> rfl

/-! ## The reserved field of a format (R81) -/

/-- Where the reserved field of a format begins. -/
def Format.reservedStart : Format → Nat
  | .N | .X | .H | .T | .I => 0
  | .V => 10
  | .B | .P => 8
  | .A => 21

/-- How many bits the reserved field of a format has. -/
def Format.reservedLen : Format → Nat
  | .N => 26
  | .X => 16
  | .V => 6
  | .B => 18
  | .P => 8
  | .A => 5
  | .H | .T | .I => 0

/-- The reserved field of a word read in a format. -/
def Format.reserved (f : Format) (w : Word) : BitVec f.reservedLen := w.extractLsb' f.reservedStart f.reservedLen

theorem Format.reserved_le (f : Format) : f.reservedStart + f.reservedLen ≤ 32 := by
  cases f <;> decide

/-- The word of a format with a given opcode and the operand fields of a word. -/
def Format.assemble (op : BitVec 6) (w : Word) : Format → Word
  | .N => encN op
  | .X => encX op (idxField w)
  | .V => encV op (idxField w) (vField w)
  | .H => encH op (idxField w) (prevField w) (thrField w)
  | .B => encB op (bField w)
  | .T => encT op (idxField w) (aField w) (bField w)
  | .P => encP op (idxField w) (bField w)
  | .A => encA op (hField w) (mField w) (lField w)
  | .I => encI op (idxField w) (immField w)

/-- A word is its opcode and its operand fields, assembled, when its reserved field is zero. -/
theorem Format.assemble_eq (f : Format) {w : Word} (h : f.reserved w = 0) : f.assemble (opField w) w = w := by
  cases f with
  | N => exact encN_eq_iff.mpr ⟨rfl, h.symm⟩
  | X => exact encX_eq_iff.mpr ⟨rfl, rfl, h.symm⟩
  | V => exact encV_eq_iff.mpr ⟨rfl, rfl, h.symm, rfl⟩
  | H => exact encH_eq_iff.mpr ⟨rfl, rfl, rfl, rfl⟩
  | B => exact encB_eq_iff.mpr ⟨rfl, h.symm, rfl⟩
  | T => exact encT_eq_iff.mpr ⟨rfl, rfl, rfl, rfl⟩
  | P => exact encP_eq_iff.mpr ⟨rfl, rfl, h.symm, rfl⟩
  | A => exact encA_eq_iff.mpr ⟨rfl, h.symm, rfl, rfl, rfl⟩
  | I => exact encI_eq_iff.mpr ⟨rfl, rfl, rfl⟩

/-! ## The rows of the opcode map (R84) -/

namespace OpcodeRow

variable {r q : OpcodeRow}

/-- A row's pattern is its opcode over zeros; its mask covers the opcode and the reserved field of its format. -/
theorem fixedBits (hr : r ∈ opcodeMap) : opField r.pattern = r.op ∧ r.pattern.extractLsb' 0 26 = 0#26 ∧
    opField r.mask = BitVec.allOnes 6 ∧ r.mask &&& 0x03FFFFFF#32 =
      (BitVec.allOnes r.mnemonic.format.reservedLen).setWidth 32 <<< r.mnemonic.format.reservedStart := by
  revert r
  decide

theorem eq_of_op_eq (hr : r ∈ opcodeMap) (hq : q ∈ opcodeMap) (h : r.op = q.op) : r = q :=
  List.inj_on_of_nodup_map (by decide : (opcodeMap.map (·.op)).Nodup) hr hq h

theorem eq_of_mnemonic_eq (hr : r ∈ opcodeMap) (hq : q ∈ opcodeMap) (h : r.mnemonic = q.mnemonic) : r = q :=
  List.inj_on_of_nodup_map (by decide : (opcodeMap.map (·.mnemonic)).Nodup) hr hq h

/-- The encoder writes the row's opcode and the operands in the row's format. -/
theorem encode_extract (hr : r ∈ opcodeMap) (w : Word) :
    encode (extract w r.mnemonic) = r.mnemonic.format.assemble r.op w := by
  revert r
  simp [opcodeMap, encode, extract, Mnemonic.format, Format.assemble]

/-- Matching a row is carrying its opcode and no 1 under the rest of its mask. -/
theorem matches_iff (hr : r ∈ opcodeMap) {w : Word} :
    w &&& r.mask = r.pattern ↔ r.op = opField w ∧ w &&& (r.mask &&& 0x03FFFFFF#32) = 0#32 := by
  obtain ⟨hop, hlow, hmask, -⟩ := fixedBits hr
  have hrest : w &&& (r.mask &&& 0x03FFFFFF#32) = 0#32 ↔ w.extractLsb' 0 26 &&& r.mask.extractLsb' 0 26 = 0#26 := by
    have hhigh : opField 0x03FFFFFF#32 = 0#6 := by decide
    have hones : (0x03FFFFFF#32).extractLsb' 0 26 = BitVec.allOnes 26 := by decide
    rw [word_eq_iff, opField_and, opField_and, hhigh, BitVec.extractLsb'_and, BitVec.extractLsb'_and, hones,
      BitVec.and_allOnes]
    simp [opField]
  rw [word_eq_iff, opField_and, hmask, BitVec.and_allOnes, hop, BitVec.extractLsb'_and, hlow, ← hrest, eq_comm]

/-- A word that matches a row carries the row's opcode, and the reserved field of the row's format is zero. -/
theorem fields_of_matches (hr : r ∈ opcodeMap) {w : Word} (h : w &&& r.mask = r.pattern) :
    r.op = opField w ∧ r.mnemonic.format.reserved w = 0 := by
  obtain ⟨hop, hrest⟩ := (matches_iff hr).mp h
  obtain ⟨-, -, -, hmask⟩ := fixedBits hr
  exact ⟨hop, (and_block_eq_zero_iff r.mnemonic.format.reserved_le).mp (hmask ▸ hrest)⟩

end OpcodeRow

theorem rowOf_eq_some_iff {op : BitVec 6} {r : OpcodeRow} : rowOf op = some r ↔ r ∈ opcodeMap ∧ r.op = op := by
  constructor
  · intro h
    exact ⟨List.mem_of_find?_eq_some h, by simpa using List.find?_some h⟩
  · rintro ⟨hr, rfl⟩
    revert r
    decide

/-! ## The decoder (R85, R86) -/

section Decoder

variable {w : Word}

theorem decode_of_row {r : OpcodeRow} (hr : r ∈ opcodeMap) (hop : r.op = opField w) :
    decode w = if w &&& r.mask = r.pattern then .command (extract w r.mnemonic) else .illegal .reservedBits := by
  simp only [decode, rowOf_eq_some_iff.mpr ⟨hr, hop⟩]

theorem decode_of_rowOf_none (h : rowOf (opField w) = none) : decode w = .illegal .unassignedOpcode := by
  simp only [decode, h]

/-- A word decodes to a command exactly when it matches a row whose fields are that command's. -/
theorem decode_eq_command_iff {i : Instr} :
    decode w = .command i ↔ ∃ r ∈ opcodeMap, w &&& r.mask = r.pattern ∧ extract w r.mnemonic = i := by
  constructor
  · intro h
    cases hrow : rowOf (opField w) with
    | none => simp [decode_of_rowOf_none hrow] at h
    | some r =>
      obtain ⟨hr, hop⟩ := rowOf_eq_some_iff.mp hrow
      rw [decode_of_row hr hop] at h
      split at h
      · next hmatch => exact ⟨r, hr, hmatch, by simpa using h⟩
      · simp at h
  · rintro ⟨r, hr, hmatch, rfl⟩
    obtain ⟨hop, -⟩ := OpcodeRow.fields_of_matches hr hmatch
    rw [decode_of_row hr hop, if_pos hmatch]

theorem decode_eq_unassignedOpcode_iff : decode w = .illegal .unassignedOpcode ↔ rowOf (opField w) = none := by
  refine ⟨fun h => ?_, decode_of_rowOf_none⟩
  cases hrow : rowOf (opField w) with
  | none => rfl
  | some r =>
    obtain ⟨hr, hop⟩ := rowOf_eq_some_iff.mp hrow
    rw [decode_of_row hr hop] at h
    split at h <;> simp at h

theorem decode_eq_reservedBits_iff : decode w = .illegal .reservedBits ↔
    ∃ r ∈ opcodeMap, r.op = opField w ∧ w &&& r.mask ≠ r.pattern := by
  constructor
  · intro h
    cases hrow : rowOf (opField w) with
    | none => simp [decode_of_rowOf_none hrow] at h
    | some r =>
      obtain ⟨hr, hop⟩ := rowOf_eq_some_iff.mp hrow
      refine ⟨r, hr, hop, fun hmatch => ?_⟩
      simp [decode_of_row hr hop, hmatch] at h
  · rintro ⟨r, hr, hop, hmatch⟩
    rw [decode_of_row hr hop, if_neg hmatch]

end Decoder

section Commands

open Laws.EncodingFitsRow

/-- Every command's word matches the row of its mnemonic. -/
theorem encodingFitsRow (i : Instr) : Statement i := by
  cases i with
  | nop => exact nop
  | anRead idx => exact anRead idx
  | anGet idx => exact anGet idx
  | anChanged idx => exact anChanged idx
  | anCal => exact anCal
  | anCalrd idx => exact anCalrd idx
  | smUpdate idx v => exact smUpdate idx v
  | smReset idx => exact smReset idx
  | norm idx v => exact norm idx v
  | hyst cur prev thr => exact hyst cur prev thr
  | btPoll => exact btPoll
  | btState idx => exact btState idx
  | btPressed idx => exact btPressed idx
  | btReleased idx => exact btReleased idx
  | rxByte b => exact rxByte b
  | rxRd idx => exact rxRd idx
  | rxDt1 => exact rxDt1
  | csClr => exact csClr
  | csAdd b => exact csAdd b
  | csGen => exact csGen
  | csVer b => exact csVer b
  | txCc p a b => exact txCc p a b
  | txPc b => exact txPc b
  | txDt1 p b => exact txDt1 p b
  | txRq1 => exact txRq1
  | txSeta h m l => exact txSeta h m l
  | txSets h m l => exact txSets h m l
  | pdUpdate idx imm => exact pdUpdate idx imm
  | pdGet idx => exact pdGet idx
  | pdPrev idx => exact pdPrev idx
  | crRd idx => exact crRd idx
  | crWr idx imm => exact crWr idx imm

end Commands

/-! ## The statements -/

/-- Settles O1: the command's word matches its row, and the fields read back are its operands. -/
theorem decodeEncodeAgree : Obligations.DecodeEncodeAgree := by
  intro i
  obtain ⟨r, hrow, hmnemonic, hmatch⟩ := encodingFitsRow i
  obtain ⟨hr, -⟩ := rowOf_eq_some_iff.mp hrow
  exact decode_eq_command_iff.mpr ⟨r, hr, hmatch, hmnemonic ▸ extract_encode i⟩

/-- Settles O2: a word that matches a row is its opcode and operand fields, assembled. -/
theorem decodedWordIsItsEncoding : Obligations.DecodedWordIsItsEncoding := by
  intro w i h
  obtain ⟨r, hr, hmatch, rfl⟩ := decode_eq_command_iff.mp h
  obtain ⟨hop, hreserved⟩ := OpcodeRow.fields_of_matches hr hmatch
  rw [OpcodeRow.encode_extract hr, hop, Format.assemble_eq _ hreserved]

/-- Settles O3: the table by evaluation; two rows that match one word have one opcode. -/
theorem wordDecodesIffItMatchesItsRow : Obligations.WordDecodesIffItMatchesItsRow := by
  refine ⟨by decide, by decide, ?_, fun w r hr => ⟨?_, fun hmatch => ?_⟩⟩
  · have hdistinct : opcodeMap.Pairwise (fun r q => r.op ≠ q.op) := by decide
    refine hdistinct.imp_of_mem fun hr hq hne w ⟨hmatch, hmatch'⟩ => hne ?_
    obtain ⟨hop, -⟩ := OpcodeRow.fields_of_matches hr hmatch
    obtain ⟨hop', -⟩ := OpcodeRow.fields_of_matches hq hmatch'
    exact hop.trans hop'.symm
  · rintro ⟨i, hdecode, hmnemonic⟩
    obtain ⟨q, hq, hmatch, rfl⟩ := decode_eq_command_iff.mp hdecode
    rwa [← OpcodeRow.eq_of_mnemonic_eq hq hr ((extract_mnemonic w _).symm.trans hmnemonic)]
  · exact ⟨extract w r.mnemonic, decode_eq_command_iff.mpr ⟨r, hr, hmatch, rfl⟩, extract_mnemonic w _⟩

/-- Settles O4: the opcodes without a row by evaluation over all 64; a word with a row's opcode misses the row exactly by a
1 in the reserved field. -/
theorem illegalWordsAreExactlyTheReservedOnes : Obligations.IllegalWordsAreExactlyTheReservedOnes := by
  refine ⟨fun w => ?_, fun w => ?_, fun w why s h => Machine.runWord_illegal h s⟩
  · rw [decode_eq_unassignedOpcode_iff]
    generalize opField w = op
    revert op
    decide
  · rw [decode_eq_reservedBits_iff]
    refine exists_congr fun r => and_congr_right fun hr => and_congr_right fun hop => ?_
    rw [Ne, OpcodeRow.matches_iff hr, and_iff_right hop]

/-- Settles O5. -/
theorem sampleWordsDecode : Obligations.SampleWordsDecode := by
  unfold Obligations.SampleWordsDecode
  decide

end Sys2Proof
end

section
/-! PROOFS. Commands one after the other (20_memory.md R66). -/

namespace Sys2Proof.Machine

/-- A command ahead of others runs first. -/
theorem execAll_cons {i : Instr} {s t : State} (h : exec i s = .next t) (is : List Instr) :
    execAll (i :: is) s = execAll is t := by
  simp only [execAll, h]

/-- A sequence, then another. -/
theorem execAll_append {is : List Instr} {s t : State} (h : execAll is s = .next t) (js : List Instr) :
    execAll (is ++ js) s = execAll js t := by
  induction is generalizing s with
  | nil =>
    cases h
    rfl
  | cons i is ih =>
    obtain ⟨u, hexec, -⟩ := CommandEffect.exec_completes i s
    rw [List.cons_append, execAll_cons hexec]
    exact ih (execAll_cons hexec _ ▸ h)

end Sys2Proof.Machine
end

section
/-! PROOFS. The smoother (40_analog.md R102, R103, R106 (a)): one update under the channel's invariant, the window
that a sequence of samples leaves, and the commands that feed and reset it (R113, R114). -/

namespace Sys2Proof.Machine

/-! ## One update (R102) -/

namespace Channel.Inv

variable {n : Nat} {c : Channel}

/-- There is an index inside the window, so the window is not empty. -/
theorem size_pos (h : c.Inv n) : 0 < n := by
  obtain ⟨-, -, hidx, -⟩ := h
  exact Nat.zero_lt_of_lt hidx

/-- The write index names a sample of the window. -/
theorem smIdx_lt_length (h : c.Inv n) : c.smIdx.toNat < c.smBuf.length := by
  obtain ⟨hlen, -, hidx, -⟩ := h
  exact hlen ▸ hidx

/-- The sum of a window is that of `n` samples. -/
theorem smSum_le (h : c.Inv n) : c.smSum.toNat ≤ n * 1023 := by
  obtain ⟨hlen, hsum, -, -⟩ := h
  simpa [hsum, hlen] using sum_samples_le c.smBuf

/-- The oldest sample is part of the running sum. -/
theorem oldest_le_smSum (h : c.Inv n) : (c.smBuf.getD c.smIdx.toNat 0).toNat ≤ c.smSum.toNat := by
  have hlt := h.smIdx_lt_length
  obtain ⟨-, hsum, -, -⟩ := h
  rw [List.getD_eq_getElem _ _ hlt, hsum]
  exact List.le_sum_of_mem (List.mem_map_of_mem (List.getElem_mem hlt))

/-- The 20-bit sum neither borrows nor wraps: it is the sum of the window with one sample replaced. -/
theorem smUpdate_smSum_toNat (h : c.Inv n) (hn : n ≤ 1024) (raw : BitVec 10) :
    (c.smUpdate n raw).smSum.toNat = c.smSum.toNat - (c.smBuf.getD c.smIdx.toNat 0).toNat + raw.toNat := by
  have hlt := h.smIdx_lt_length
  have hold := h.oldest_le_smSum
  have hset := sum_map_set BitVec.toNat c.smBuf hlt raw
  have hbuf : (c.smUpdate n raw).smBuf = c.smBuf.set c.smIdx.toNat raw := rfl
  obtain ⟨-, hnew, -, -⟩ := h.smUpdate hn raw
  obtain ⟨-, hsum, -, -⟩ := h
  rw [List.getD_eq_getElem _ _ hlt] at hold ⊢
  rw [hnew, hbuf]
  omega

/-- The write index goes round the window, in 10 bits. -/
theorem smUpdate_smIdx_toNat (h : c.Inv n) (hn : n ≤ 1024) (raw : BitVec 10) :
    (c.smUpdate n raw).smIdx.toNat = (c.smIdx.toNat + 1) % n := by
  have hmod := Nat.mod_lt (c.smIdx.toNat + 1) h.size_pos
  exact (BitVec.toNat_ofNat ..).trans (Nat.mod_eq_of_lt (by omega))

/-- The average fits a sample's 10 bits. -/
theorem smoothed_toNat (h : c.Inv n) : (c.smoothed n).toNat = c.smSum.toNat / n := by
  have hle : c.smSum.toNat / n ≤ 1023 := Nat.div_le_of_le_mul h.smSum_le
  exact (BitVec.toNat_ofNat ..).trans (Nat.mod_eq_of_lt (by omega))

end Channel.Inv

/-- Settles O15: the invariant keeps the sum from borrowing or wrapping, and the new state has it too. -/
theorem smoothingEvictsAdmitsAndAdvances : Obligations.SmoothingEvictsAdmitsAndAdvances := by
  intro n c raw _ hn h u old
  have hu : u.Inv n := h.smUpdate hn raw
  exact ⟨h.oldest_le_smSum, h.smUpdate_smSum_toNat hn raw, hu.smSum_le, rfl, h.smUpdate_smIdx_toNat hn raw,
    hu.smoothed_toNat, hu, rfl, rfl, rfl, rfl⟩

/-! ## A sequence of samples -/

/-- The samples of the smoother's window, oldest first: the circular buffer read from the write index on. -/
def Channel.window (c : Channel) : List (BitVec 10) := c.smBuf.rotate c.smIdx.toNat

theorem Channel.Inv.window_length {n : Nat} {c : Channel} (h : c.Inv n) : c.window.length = n := by
  obtain ⟨hlen, -, -, -⟩ := h
  exact (List.length_rotate ..).trans hlen

/-- An update drops the oldest sample of the window and puts the new one last. -/
theorem Channel.Inv.smUpdate_window {n : Nat} {c : Channel} (h : c.Inv n) (hn : n ≤ 1024) (raw : BitVec 10) :
    (c.smUpdate n raw).window = c.window.tail ++ [raw] := by
  have hlt := h.smIdx_lt_length
  have hidx := h.smUpdate_smIdx_toNat hn raw
  obtain ⟨hlen, -, -, -⟩ := h
  have hset : c.smBuf.set c.smIdx.toNat raw =
      (c.smBuf.take c.smIdx.toNat ++ [raw]) ++ c.smBuf.drop (c.smIdx.toNat + 1) := by
    simp [List.set_eq_take_append_cons_drop, hlt]
  have hsplit : (c.smBuf.take c.smIdx.toNat ++ [raw]).length = c.smIdx.toNat + 1 := by simp [hlt.le]
  have hdrop : c.smBuf.drop c.smIdx.toNat ≠ [] := by simpa using hlt
  calc (c.smUpdate n raw).window
      = (c.smBuf.set c.smIdx.toNat raw).rotate ((c.smIdx.toNat + 1) % n) := by rw [← hidx]; rfl
    _ = (c.smBuf.set c.smIdx.toNat raw).rotate (c.smIdx.toNat + 1) := by
        rw [← hlen, ← List.length_set (as := c.smBuf) (i := c.smIdx.toNat) (a := raw), List.rotate_mod]
    _ = c.smBuf.drop (c.smIdx.toNat + 1) ++ (c.smBuf.take c.smIdx.toNat ++ [raw]) := by
        rw [hset, ← hsplit, List.rotate_append_length_eq]
    _ = c.window.tail ++ [raw] := by
        rw [Channel.window, List.rotate_eq_drop_append_take hlt.le, List.tail_append_of_ne_nil hdrop, List.tail_drop,
          List.append_assoc]

theorem Channel.Inv.feed {n : Nat} {c : Channel} (h : c.Inv n) (hn : n ≤ 1024) (samples : List (BitVec 10)) :
    (c.feed n samples).Inv n :=
  List.foldlRecOn (motive := Channel.Inv n) samples _ h fun _ hc raw _ => Channel.Inv.smUpdate hc hn raw

/-- The window holds the last `n` of the samples that were in it and that were fed. -/
theorem Channel.Inv.feed_window {n : Nat} {c : Channel} (h : c.Inv n) (hn : n ≤ 1024) (samples : List (BitVec 10)) :
    (c.feed n samples).window = (c.window ++ samples).drop samples.length := by
  induction samples generalizing c with
  | nil => simp [Channel.feed]
  | cons raw samples ih =>
    have hne : c.window ≠ [] := List.ne_nil_of_length_pos (h.window_length ▸ h.size_pos)
    calc (c.feed n (raw :: samples)).window
        = ((c.smUpdate n raw).window ++ samples).drop samples.length := ih (h.smUpdate hn raw)
      _ = (c.window ++ raw :: samples).tail.drop samples.length := by
          rw [h.smUpdate_window hn raw, List.tail_append_of_ne_nil hne, List.append_assoc, List.singleton_append]
      _ = (c.window ++ raw :: samples).drop (raw :: samples).length := by
          rw [List.drop_tail, List.length_cons]

/-- As many equal samples as the window holds fill it (R106 (a)). -/
theorem Channel.Inv.feed_replicate_smBuf {n : Nat} {c : Channel} (h : c.Inv n) (hn : n ≤ 1024) (v : BitVec 10) :
    (c.feed n (List.replicate n v)).smBuf = List.replicate n v := by
  have hwindow : (c.feed n (List.replicate n v)).window = List.replicate n v := by
    rw [h.feed_window hn, List.length_replicate, List.drop_left' h.window_length]
  exact List.rotate_injective _ (hwindow.trans (List.rotate_replicate v n _).symm)

/-- Then the sum is `n` times the sample (R106 (a)). -/
theorem Channel.Inv.feed_replicate_smSum {n : Nat} {c : Channel} (h : c.Inv n) (hn : n ≤ 1024) (v : BitVec 10) :
    (c.feed n (List.replicate n v)).smSum.toNat = n * v.toNat := by
  obtain ⟨-, hsum, -, -⟩ := h.feed hn (List.replicate n v)
  rw [hsum, h.feed_replicate_smBuf hn, List.map_replicate, List.sum_replicate, smul_eq_mul]

/-- And the average is the sample (R106 (a)). -/
theorem Channel.Inv.feed_replicate_smoothed {n : Nat} {c : Channel} (h : c.Inv n) (hn : n ≤ 1024) (v : BitVec 10) :
    (c.feed n (List.replicate n v)).smoothed n = v := by
  apply BitVec.eq_of_toNat_eq
  rw [(h.feed hn _).smoothed_toNat, h.feed_replicate_smSum hn, Nat.mul_div_cancel_left _ h.size_pos]

/-! ## The commands (R113, R114) -/

/-- The state that SM_UPDATEs of `samples` on channel `ch` leave: the smoother fed, and its average answered. -/
def State.afterFeed (s : State) (ch : Nat) (samples : List (BitVec 10)) : State :=
  (s.setChan ch ((s.chan ch).feed s.cfg.smoothN samples)).answer 0
    ((((s.chan ch).feed s.cfg.smoothN samples).smoothed s.cfg.smoothN).setWidth 32)

/-- SM_UPDATE on a channel that there is (R113). -/
theorem exec_smUpdate_of_lt (s : State) {ch : BitVec 10} (v : BitVec 10) (hch : ch.toNat < s.cfg.numCh) :
    exec (.smUpdate ch v) s = .next (s.afterFeed ch.toNat [v]) :=
  next_congr (s.onChannel_of_lt _ hch)

/-- Settles O16: past the index check each command is one write of the channel. -/
theorem smUpdateAndSmResetActOnOneSmoother : Obligations.SmUpdateAndSmResetActOnOneSmoother := fun s _ v =>
  ⟨fun hch => ⟨next_congr (s.onChannel_of_le _ hch), next_congr (s.onChannel_of_le _ hch)⟩,
    fun hch => ⟨exec_smUpdate_of_lt s v hch, next_congr (s.onChannel_of_lt _ hch)⟩⟩

theorem State.afterFeed_chans_length (s : State) (ch : Nat) (samples : List (BitVec 10)) :
    (s.afterFeed ch samples).chans.length = s.chans.length := List.length_set ..

theorem State.afterFeed_chan_self {s : State} {ch : Nat} (hlt : ch < s.chans.length) (samples : List (BitVec 10)) :
    (s.afterFeed ch samples).chan ch = (s.chan ch).feed s.cfg.smoothN samples := s.chan_setChan_self _ hlt

/-- Of two writes of one channel, and of two answers, the second stands. -/
theorem State.answer_setChan_answer_setChan (s : State) (ch : Nat) (c d : Channel) (x : BitVec 4) (y z : BitVec 32) :
    (((s.setChan ch c).answer x y).setChan ch d).answer x z = (s.setChan ch d).answer x z := by
  simp [State.setChan, State.answer]

/-- Samples, then more samples, are fed one after the other. -/
theorem State.afterFeed_afterFeed {s : State} {ch : Nat} (hlt : ch < s.chans.length) (xs ys : List (BitVec 10)) :
    (s.afterFeed ch xs).afterFeed ch ys = s.afterFeed ch (xs ++ ys) := by
  have hfeed : ((s.afterFeed ch xs).chan ch).feed s.cfg.smoothN ys = (s.chan ch).feed s.cfg.smoothN (xs ++ ys) := by
    rw [State.afterFeed_chan_self hlt]
    exact List.foldl_append.symm
  have hagain : (s.afterFeed ch xs).afterFeed ch ys =
      ((s.afterFeed ch xs).setChan ch ((s.chan ch).feed s.cfg.smoothN (xs ++ ys))).answer 0
        ((((s.chan ch).feed s.cfg.smoothN (xs ++ ys)).smoothed s.cfg.smoothN).setWidth 32) := hfeed ▸ rfl
  exact hagain.trans (s.answer_setChan_answer_setChan ..)

/-- A non-empty run of SM_UPDATE on one channel feeds its samples to the channel's smoother, in order. -/
theorem execAll_smUpdate {s : State} {ch : BitVec 10} (hch : ch.toNat < s.cfg.numCh)
    (hlt : ch.toNat < s.chans.length) (v : BitVec 10) (samples : List (BitVec 10)) :
    execAll ((v :: samples).map (.smUpdate ch)) s = .next (s.afterFeed ch.toNat (v :: samples)) := by
  induction samples generalizing s v with
  | nil => exact execAll_cons (exec_smUpdate_of_lt s v hch) []
  | cons w samples ih =>
    have hlt' : ch.toNat < (s.afterFeed ch.toNat [v]).chans.length := (s.afterFeed_chans_length _ _).symm ▸ hlt
    rw [List.map_cons, execAll_cons (exec_smUpdate_of_lt s v hch), ih (s := s.afterFeed ch.toNat [v]) hch hlt',
      State.afterFeed_afterFeed hlt, List.singleton_append]

/-- Settles O25: the commands feed the named channel's smoother SMOOTH_N times. -/
theorem smootherConvergesToAConstantInput : Obligations.SmootherConvergesToAConstantInput := by
  intro s ch v hs hch
  obtain ⟨hpos, hn⟩ := hs.cfgLegal.smoothN_range
  have hlt : ch.toNat < s.chans.length := hs.chanCount ▸ hch
  have hc : (s.chan ch.toNat).Inv s.cfg.smoothN := s.chan_eq_getElem hlt ▸ hs.chanInv _ (List.getElem_mem hlt)
  have hrun : execAll (List.replicate s.cfg.smoothN (.smUpdate ch v)) s =
      .next (s.afterFeed ch.toNat (List.replicate s.cfg.smoothN v)) := by
    obtain ⟨k, hk⟩ := Nat.exists_eq_add_one.mpr hpos
    rw [hk, List.replicate_succ, ← List.map_replicate, ← List.map_cons]
    exact execAll_smUpdate hch hlt v (List.replicate k v)
  refine ⟨_, hrun, rfl, ?_, ?_, ?_⟩
  · exact congrArg (BitVec.setWidth 32) (hc.feed_replicate_smoothed hn v)
  · rw [State.afterFeed_chan_self hlt, hc.feed_replicate_smBuf hn]
  · rw [State.afterFeed_chan_self hlt, hc.feed_replicate_smSum hn]

end Sys2Proof.Machine
end

section
/-! PROOFS. Normalization and hysteresis (40_analog.md R104, R105, R106 (b), (c)), and the commands that condition,
cache and report a value (R110 to R112, R115, R117, R118). -/

namespace Sys2Proof.Machine

/-! ## Normalization (R104) -/

/-- Every branch of R104 fits 10 bits. -/
theorem Channel.normalize_toNat (c : Channel) (v : BitVec 10) :
    (c.normalize v).toNat =
      if c.calMax.toNat ≤ c.calMin.toNat then v.toNat else if v.toNat ≤ c.calMin.toNat then 0
      else if c.calMax.toNat ≤ v.toNat then 1023
      else (v.toNat - c.calMin.toNat) * 1023 / (c.calMax.toNat - c.calMin.toNat) := by
  unfold Channel.normalize
  split
  · rfl
  split
  · rfl
  split
  · rfl
  · have hle : (v.toNat - c.calMin.toNat) * 1023 / (c.calMax.toNat - c.calMin.toNat) ≤ 1023 :=
      Nat.div_le_of_le_mul (Nat.mul_le_mul_right _ (by omega))
    exact (BitVec.toNat_ofNat ..).trans (Nat.mod_eq_of_lt (Nat.lt_succ_of_le hle))

/-- Uncalibrated, a value is left as it is. -/
theorem Channel.normalize_of_le {c : Channel} (h : c.calMax.toNat ≤ c.calMin.toNat) (v : BitVec 10) :
    c.normalize v = v := if_pos h

/-- Calibrated, the branches are one line through the range's lower end, cut off at full scale. -/
theorem Channel.normalize_toNat_of_lt {c : Channel} (h : c.calMin.toNat < c.calMax.toNat) (v : BitVec 10) :
    (c.normalize v).toNat =
      min ((v.toNat - c.calMin.toNat) * 1023 / (c.calMax.toNat - c.calMin.toNat)) 1023 := by
  have hwidth : 0 < c.calMax.toNat - c.calMin.toNat := Nat.sub_pos_of_lt h
  rw [normalize_toNat, if_neg (Nat.not_le.mpr h)]
  split
  case isTrue hlo => simp [Nat.sub_eq_zero_of_le hlo]
  split
  case isTrue hhi =>
    refine (min_eq_right ((Nat.le_div_iff_mul_le hwidth).mpr ?_)).symm
    rw [Nat.mul_comm]
    gcongr
  case isFalse hhi =>
    refine (min_eq_left (Nat.div_le_of_le_mul ?_)).symm
    gcongr
    omega

/-- Settles O23: the line rises, is 0 at the lower end and meets full scale at the upper end. -/
theorem normalizationIsMonotoneWithFixedEnds : Obligations.NormalizationIsMonotoneWithFixedEnds := by
  refine fun c => ⟨fun h => ⟨BitVec.eq_of_toNat_eq ?_, BitVec.eq_of_toNat_eq ?_⟩, fun v w hvw => ?_⟩
  · simp [Channel.normalize_toNat_of_lt h]
  · rw [Channel.normalize_toNat_of_lt h, Nat.mul_div_cancel_left _ (Nat.sub_pos_of_lt h)]
    rfl
  · rcases Nat.lt_or_ge c.calMin.toNat c.calMax.toNat with h | h
    · rw [Channel.normalize_toNat_of_lt h, Channel.normalize_toNat_of_lt h]
      gcongr
    · rwa [Channel.normalize_of_le h, Channel.normalize_of_le h]

/-- Settles O22: past the index check, with the normalized value by its branches. -/
theorem normRescalesTheCalibratedRange : Obligations.NormRescalesTheCalibratedRange := by
  intro s ch v
  refine ⟨fun hch => next_congr (s.onChannel_of_le _ hch), fun hch => next_congr ?_⟩
  rw [s.onChannel_of_lt _ hch, State.ok_eq_answer, ← BitVec.ofNat_toNat, Channel.normalize_toNat]

/-! ## Hysteresis (R105) -/

theorem hystValue_toNat (cur prev : BitVec 10) (thr : BitVec 6) :
    (hystValue cur prev thr).toNat =
      if max cur.toNat prev.toNat - min cur.toNat prev.toNat < thr.toNat then prev.toNat else cur.toNat := by
  have hdist : ((cur.toNat : Int) - prev.toNat).natAbs = max cur.toNat prev.toNat - min cur.toNat prev.toNat := by
    omega
  rw [hystValue, hdist, apply_ite BitVec.toNat]

/-- Settles O24: the distance of the two values is the greater less the smaller. -/
theorem hystReturnsPrevInsideTheThreshold : Obligations.HystReturnsPrevInsideTheThreshold := by
  intro s cur prev thr
  rw [← hystValue_toNat, BitVec.ofNat_toNat]
  rfl

/-! ## AN_READ (R110) -/

/-- The cache takes the value whatever it is: accepting an equal one changes nothing. -/
theorem Channel.accept_eq (c : Channel) (h : BitVec 10) :
    c.accept h = { c with anVal := h, anChg := c.anChg || h != c.anVal } := by
  unfold Channel.accept
  split
  case isTrue heq => simp [heq]
  case isFalse hne => simp [hne]

/-- Settles O17: past the index check, with the two cases of the cache written as one. -/
theorem anReadConditionsOneSample : Obligations.AnReadConditionsOneSample := by
  intro s ch
  refine ⟨fun hch => next_congr (s.onChannel_of_le _ hch), fun hch => next_congr ?_⟩
  rw [s.onChannel_of_lt _ hch]
  simp only [Channel.read, Channel.accept_eq]
  rfl

/-! ## The reads (R111, R112, R117) -/

theorem bitWord_eq_ofNat (b : Bool) : bitWord b = BitVec.ofNat 32 b.toNat := by cases b <;> rfl

/-- The upper part of a word counts in units of the lower part's size. -/
theorem toNat_append_eq {m n : Nat} (x : BitVec m) (y : BitVec n) :
    (x ++ y).toNat = x.toNat * 2 ^ n + y.toNat := by
  rw [BitVec.toNat_append, ← Nat.shiftLeft_add_eq_or_of_lt y.isLt, Nat.shiftLeft_eq]

/-- AN_CALRD's word by its value. -/
theorem calibrationWord_eq_ofNat (hi lo : BitVec 10) :
    0#6 ++ hi ++ 0#6 ++ lo = BitVec.ofNat 32 (65536 * hi.toNat + lo.toNat) := by
  have hhi := hi.isLt
  have hlo := lo.isLt
  apply BitVec.eq_of_toNat_eq
  calc (0#6 ++ hi ++ 0#6 ++ lo).toNat = ((0 * 2 ^ 10 + hi.toNat) * 2 ^ 6 + 0) * 2 ^ 10 + lo.toNat := by
        simp only [toNat_append_eq, BitVec.toNat_ofNat, Nat.zero_mod]
    _ = (BitVec.ofNat 32 (65536 * hi.toNat + lo.toNat)).toNat := by
        rw [BitVec.toNat_ofNat]
        omega

/-- Settles O18: past the index check, with the results by their values. -/
theorem analogReadCommandsReturnTheirField : Obligations.AnalogReadCommandsReturnTheirField := by
  intro s ch
  refine ⟨fun hch => ⟨next_congr (s.onChannel_of_le _ hch), next_congr (s.onChannel_of_le _ hch),
    next_congr (s.onChannel_of_le _ hch)⟩, fun hch => ?_⟩
  rw [← bitWord_eq_ofNat, ← calibrationWord_eq_ofNat, BitVec.ofNat_toNat]
  exact ⟨next_congr (s.onChannel_of_lt _ hch), next_congr (s.onChannel_of_lt _ hch),
    next_congr (s.onChannel_of_lt _ hch)⟩

/-! ## The change flag (R112) -/

/-- AN_CHANGED answers the flag and clears it. -/
theorem exec_anChanged_of_lt (s : State) {ch : BitVec 10} (hch : ch.toNat < s.cfg.numCh) :
    exec (.anChanged ch) s = .next
      ((s.setChan ch.toNat (s.chan ch.toNat).clearChanged).answer 0 (bitWord (s.chan ch.toNat).anChg)) :=
  next_congr (s.onChannel_of_lt _ hch)

theorem mnemonic_ne_anRead {i : Instr} (h : ∀ ch, i ≠ .anRead ch) : i.mnemonic ≠ .anRead := by
  cases i with
  | anRead ch => exact absurd rfl (h ch)
  | _ => exact nofun

/-- No command but AN_READ sets a flag, so a sequence without AN_READ leaves a clear flag clear. -/
theorem execAll_keeps_flag_clear {is : List Instr} (his : ∀ i ∈ is, ∀ k, i ≠ .anRead k) {s : State} {ch : Nat}
    (hclear : (s.chan ch).anChg = false) :
    ∃ t, execAll is s = .next t ∧ t.cfg = s.cfg ∧ (t.chan ch).anChg = false := by
  induction is generalizing s with
  | nil => exact ⟨s, rfl, rfl, hclear⟩
  | cons i is ih =>
    obtain ⟨u, hexec, heffect⟩ := CommandEffect.exec_completes i s
    have hne := mnemonic_ne_anRead (his i List.mem_cons_self)
    have hu : (u.chan ch).anChg = false := Bool.eq_false_iff.mpr fun hset =>
      Bool.eq_false_iff.mp hclear ((heffect.chan_edit ch).anChg_stays_clear hne hset)
    obtain ⟨t, hrun, hcfg, ht⟩ := ih (fun j hj => his j (List.mem_cons_of_mem i hj)) hu
    exact ⟨t, (execAll_cons hexec is).trans hrun, hcfg.trans heffect.cfg_eq, ht⟩

/-- Settles O19: the first AN_CHANGED clears the flag, the commands between keep it clear, and the second answers it. -/
theorem changeFlagIsDeliveredAtMostOnce : Obligations.ChangeFlagIsDeliveredAtMostOnce := by
  intro s ch between hs hch hbetween
  have hlt : ch.toNat < s.chans.length := hs.chanCount ▸ hch
  have hcleared : ((s.setChan ch.toNat (s.chan ch.toNat).clearChanged).chan ch.toNat).anChg = false :=
    s.chan_setChan_self _ hlt ▸ rfl
  obtain ⟨u, hrun, hcfg, hclear⟩ := execAll_keeps_flag_clear hbetween (ch := ch.toNat)
    (s := (s.setChan ch.toNat (s.chan ch.toNat).clearChanged).answer 0 (bitWord (s.chan ch.toNat).anChg)) hcleared
  refine ⟨(u.setChan ch.toNat (u.chan ch.toNat).clearChanged).answer 0 (bitWord (u.chan ch.toNat).anChg), ?_, rfl,
    hclear ▸ rfl⟩
  calc execAll (.anChanged ch :: (between ++ [.anChanged ch])) s
      = execAll (between ++ [.anChanged ch]) _ := execAll_cons (exec_anChanged_of_lt s hch) _
    _ = execAll [.anChanged ch] u := execAll_append hrun _
    _ = _ := execAll_cons (exec_anChanged_of_lt u (hcfg ▸ hch)) _

end Sys2Proof.Machine
end

section
/-! PROOFS. AN_CAL's samples (40_analog.md R116, 20_memory.md R68): the transfers they make at the ADC port, and the
range each channel is left with. -/

namespace Sys2Proof.Machine

/-! ## The runs, from one sample to all -/

@[simp] theorem State.calSample_cfg (s : State) (ch : Nat) : (s.calSample ch).cfg = s.cfg := rfl

@[simp] theorem State.calChannel_cfg (ch k : Nat) (s : State) : (State.calChannel ch k s).cfg = s.cfg := by
  induction k generalizing s with
  | zero => rfl
  | succ k ih => exact ih _

@[simp] theorem State.calChannels_cfg (n : Nat) (s : State) : (s.calChannels n).cfg = s.cfg :=
  State.calChannels_induction (P := fun t => t.cfg = s.cfg) rfl fun _ _ _ h => h

/-- One more channel is sampled after the others. -/
theorem State.calChannels_succ (n : Nat) (s : State) :
    s.calChannels (n + 1) = State.calChannel n s.cfg.calSamples (s.calChannels n) := by
  simp [State.calChannels, List.range_succ]

/-! ## The transfers (R116, R68) -/

/-- The requests of `k` samples of each channel below `n`, channel by channel. -/
def calRequests (c : Cfg) (k n : Nat) : List AdcRequest :=
  (List.range n).flatMap fun ch => List.replicate k ⟨chipOf c ch, chanOf c ch⟩

theorem calRequests_succ (c : Cfg) (k n : Nat) :
    calRequests c k (n + 1) = calRequests c k n ++ List.replicate k ⟨chipOf c n, chanOf c n⟩ := by
  simp [calRequests, List.range_succ]

/-- The ports after `k` transfers with the requests `requests`. -/
def Ports.afterTransfers (p : Ports) (k : Nat) (requests : List AdcRequest) : Ports :=
  { p with adcIn := p.adcIn.drop k, adcLog := p.adcLog ++ requests }

theorem Ports.afterTransfers_zero (p : Ports) : p.afterTransfers 0 [] = p := by
  simp [Ports.afterTransfers]

theorem Ports.afterTransfers_add (p : Ports) (j k : Nat) (x y : List AdcRequest) :
    (p.afterTransfers j x).afterTransfers k y = p.afterTransfers (j + k) (x ++ y) := by
  simp [Ports.afterTransfers, List.drop_drop]

theorem Ports.afterAdc_eq_afterTransfers (p : Ports) (chip chan : Nat) :
    p.afterAdc chip chan = p.afterTransfers 1 [⟨chip, chan⟩] := by
  simp [Ports.afterAdc, Ports.afterTransfers]

theorem State.calChannel_ports (ch k : Nat) (s : State) :
    (State.calChannel ch k s).ports =
      s.ports.afterTransfers k (List.replicate k ⟨chipOf s.cfg ch, chanOf s.cfg ch⟩) := by
  induction k generalizing s with
  | zero => exact s.ports.afterTransfers_zero.symm
  | succ k ih =>
    have hone : (s.calSample ch).ports = s.ports.afterTransfers 1 [⟨chipOf s.cfg ch, chanOf s.cfg ch⟩] :=
      s.ports.afterAdc_eq_afterTransfers _ _
    rw [State.calChannel, ih, hone, Ports.afterTransfers_add, State.calSample_cfg, Nat.add_comm 1 k,
      List.singleton_append, ← List.replicate_succ]

theorem State.calChannels_ports (n : Nat) (s : State) :
    (s.calChannels n).ports =
      s.ports.afterTransfers (n * s.cfg.calSamples) (calRequests s.cfg s.cfg.calSamples n) := by
  induction n with
  | zero => exact (Nat.zero_mul _ ▸ s.ports.afterTransfers_zero).symm
  | succ n ih =>
    rw [State.calChannels_succ, State.calChannel_ports, ih, Ports.afterTransfers_add, State.calChannels_cfg,
      ← calRequests_succ, ← Nat.succ_mul]

/-- The samples change the ADC port's side as their transfers do, and otherwise the channels alone. -/
theorem State.calChannels_eq (n : Nat) (s : State) :
    s.calChannels n = (s.setPorts (s.ports.afterTransfers (n * s.cfg.calSamples)
      (calRequests s.cfg s.cfg.calSamples n))).setChans (s.calChannels n).chans := by
  have hports := s.calChannels_ports n
  obtain ⟨cs, rest, requests, h, -, -⟩ := s.calibratedTo_calChannels n
  rw [h] at hports ⊢
  exact hports ▸ rfl

theorem State.calChannels_chans_length (n : Nat) (s : State) : (s.calChannels n).chans.length = s.chans.length := by
  obtain ⟨cs, rest, requests, h, hcount, -⟩ := s.calibratedTo_calChannels n
  rw [h]
  exact hcount

/-- Settles O20: the samples make the transfers and change no field but the channels; then every smoother is reset. -/
theorem calibrationTransfersInChannelOrder : Obligations.CalibrationTransfersInChannelOrder := by
  intro s
  have hlen := s.calChannels_chans_length s.cfg.numCh
  refine ⟨_, rfl, ?_, (List.length_map _).trans hlen, fun c hc => ?_⟩
  · rw [s.calChannels_eq s.cfg.numCh]
    rfl
  · obtain ⟨d, -, rfl⟩ := List.mem_map.mp hc
    rw [State.calChannels_cfg]
    exact ⟨rfl, rfl, rfl⟩

/-! ## The ranges (R116) -/

/-- Samples of one channel leave the others. -/
theorem State.calChannel_chan_ne {ch j : Nat} (h : ch ≠ j) (k : Nat) (s : State) :
    (State.calChannel ch k s).chan j = s.chan j := by
  induction k generalizing s with
  | zero => rfl
  | succ k ih => exact (ih _).trans (State.chan_setChan_ne _ _ h)

/-- Samples of one channel, all of them listed, widen its range one after the other. -/
theorem State.calChannel_chan_self {ch k : Nat} {s : State} (hch : ch < s.chans.length)
    (hk : k ≤ s.ports.adcIn.length) :
    (State.calChannel ch k s).chan ch = (s.ports.adcIn.take k).foldl Channel.widen (s.chan ch) := by
  induction k generalizing s with
  | zero => rfl
  | succ k ih =>
    obtain ⟨raw, rest, hlist⟩ := List.exists_cons_of_length_pos (Nat.zero_lt_of_lt hk)
    have hself : (s.calSample ch).chan ch = (s.chan ch).widen raw := by
      rw [← Ports.adcSample_cons hlist (chipOf s.cfg ch) (chanOf s.cfg ch)]
      exact State.chan_setChan_self _ _ hch
    have hrest : (s.calSample ch).ports.adcIn = rest := congrArg List.tail hlist
    have hlen : (s.calSample ch).chans.length = s.chans.length := List.length_set ..
    rw [State.calChannel, ih (hlen.symm ▸ hch) (by rw [hrest]; simpa [hlist] using hk), hself, hrest, hlist]
    rfl

/-- Samples of the channels below `n` leave the others. -/
theorem State.calChannels_chan_of_le {n ch : Nat} (h : n ≤ ch) (s : State) : (s.calChannels n).chan ch = s.chan ch :=
  State.calChannels_induction (P := fun t => t.chan ch = s.chan ch) rfl fun _ _ hlt ht =>
    (State.chan_setChan_ne _ _ (Nat.ne_of_lt (Nat.lt_of_lt_of_le hlt h))).trans ht

/-- Each channel takes its own share of the listed samples. -/
theorem State.calChannels_chan_of_lt {n ch : Nat} (h : ch < n) {s : State} (hch : ch < s.chans.length)
    (hlist : n * s.cfg.calSamples ≤ s.ports.adcIn.length) :
    (s.calChannels n).chan ch =
      ((s.ports.adcIn.drop (ch * s.cfg.calSamples)).take s.cfg.calSamples).foldl Channel.widen (s.chan ch) := by
  induction n with
  | zero => exact absurd h (Nat.not_lt_zero ch)
  | succ n ih =>
    rw [Nat.succ_mul] at hlist
    rw [State.calChannels_succ]
    obtain hlt | rfl := Nat.lt_succ_iff_lt_or_eq.mp h
    · rw [State.calChannel_chan_ne (Nat.ne_of_gt hlt), ih hlt (Nat.le_of_add_right_le hlist)]
    · have hin : (s.calChannels ch).ports.adcIn = s.ports.adcIn.drop (ch * s.cfg.calSamples) :=
        congrArg Ports.adcIn (s.calChannels_ports ch)
      have hlen := s.calChannels_chans_length ch
      rw [State.calChannel_chan_self (hlen.symm ▸ hch) (by rw [hin, List.length_drop]; omega), hin,
        State.calChannels_chan_of_le (Nat.le_refl ch)]

/-- The lower end is the least of itself and the samples. -/
theorem Channel.foldl_widen_calMin_toNat (c : Channel) (samples : List (BitVec 10)) :
    (samples.foldl Channel.widen c).calMin.toNat = (samples.map BitVec.toNat).foldl min c.calMin.toNat := by
  rw [List.foldl_map]
  refine (List.foldl_hom (fun c : Channel => c.calMin.toNat) fun c r => ?_).symm
  simp only [Channel.widen, apply_ite BitVec.toNat]
  split <;> omega

/-- The upper end is the greatest of itself and the samples. -/
theorem Channel.foldl_widen_calMax_toNat (c : Channel) (samples : List (BitVec 10)) :
    (samples.foldl Channel.widen c).calMax.toNat = (samples.map BitVec.toNat).foldl max c.calMax.toNat := by
  rw [List.foldl_map]
  refine (List.foldl_hom (fun c : Channel => c.calMax.toNat) fun c r => ?_).symm
  simp only [Channel.widen, apply_ite BitVec.toNat]
  split <;> omega

/-- Every channel's smoother is reset (a missing channel reads as after reset). -/
theorem State.resetSmoothers_chan (s : State) (ch : Nat) :
    s.resetSmoothers.chan ch = (s.chan ch).smReset s.cfg.smoothN :=
  List.getD_map s.chans (Channel.atReset s.cfg.smoothN) (·.smReset s.cfg.smoothN)

/-- Settles O21: each channel's range is widened by its own share of the samples, and the reset leaves the range. -/
theorem calibrationWidensEachRange : Obligations.CalibrationWidensEachRange := by
  intro s samples rest hs hin hlen
  have hports := s.calChannels_ports s.cfg.numCh
  refine ⟨_, rfl, ?_, fun ch hch => ?_⟩
  · calc (s.calChannels s.cfg.numCh).ports.adcIn = s.ports.adcIn.drop (s.cfg.numCh * s.cfg.calSamples) := by
          rw [hports]; rfl
      _ = rest := by rw [hin, List.drop_left' hlen]
  · intro own c d
    have hown : (s.ports.adcIn.drop (ch * s.cfg.calSamples)).take s.cfg.calSamples = own := by
      have hle : (ch + 1) * s.cfg.calSamples ≤ samples.length := hlen ▸ Nat.mul_le_mul_right _ hch
      rw [Nat.succ_mul] at hle
      rw [hin, List.drop_append_of_le_length (by omega),
        List.take_append_of_le_length (by rw [List.length_drop]; omega)]
    have hd : d = (own.foldl Channel.widen c).smReset s.cfg.smoothN := by
      have hlist : s.cfg.numCh * s.cfg.calSamples ≤ s.ports.adcIn.length := by rw [hin, List.length_append]; omega
      calc d = ((s.calChannels s.cfg.numCh).chan ch).smReset (s.calChannels s.cfg.numCh).cfg.smoothN :=
            State.resetSmoothers_chan _ ch
        _ = (own.foldl Channel.widen c).smReset s.cfg.smoothN := by
            rw [State.calChannels_chan_of_lt hch (hs.chanCount ▸ hch) hlist, State.calChannels_cfg, hown]
    obtain ⟨hval, hchg⟩ := Channel.WidenedTo.cache_eq ⟨own, rfl⟩
    rw [hd]
    exact ⟨c.foldl_widen_calMin_toNat own, c.foldl_widen_calMax_toNat own, rfl, rfl, rfl, hval, hchg⟩

end Sys2Proof.Machine
end

section
/-! PROOFS. The debouncer (41_buttons.md R141 to R148): the three ways one poll of a button can go, what the polls of one
debounce interval do together, and the four commands. -/

namespace Sys2Proof.Machine

namespace Button

/-! ## One poll (R142) -/

section Poll

variable {b : Button} {debounceMs : Nat} {r : Bool} {now : BitVec 32}

/-- Since when a button disagrees, as a poll at `now` that disagrees sees it: the recorded time while a change is pending,
else this very poll. -/
def disagreesSince (b : Button) (now : BitVec 32) : BitVec 32 := if b.pend then b.tchg else now

theorem disagreesSince_of_idle (h : b.pend = false) : b.disagreesSince now = now := by
  simp [disagreesSince, h]

theorem disagreesSince_of_pending (h : b.pend = true) : b.disagreesSince now = b.tchg := if_pos h

/-- A poll that agrees abandons the pending change. -/
theorem debounce_of_agree (h : r = b.st) :
    b.debounce debounceMs r now = { b with prv := b.st, pend := false } := if_pos h

/-- A poll that disagrees flips the state once the disagreement has lasted DEBOUNCE_MS. -/
theorem debounce_of_expired (hr : r ≠ b.st) (h : debounceMs ≤ (now - b.disagreesSince now).toNat) :
    b.debounce debounceMs r now = ⟨r, b.st, false, b.disagreesSince now⟩ :=
  (if_neg hr).trans (if_pos h)

/-- A poll that disagrees before that leaves the change pending. -/
theorem debounce_of_waiting (hr : r ≠ b.st) (h : (now - b.disagreesSince now).toNat < debounceMs) :
    b.debounce debounceMs r now = ⟨b.st, b.st, true, b.disagreesSince now⟩ :=
  (if_neg hr).trans (if_neg (Nat.not_le.mpr h))

end Poll

end Button

/-- Settles O27: a poll agrees, finds the interval expired, or finds it running. -/
theorem debounceFollowsTheRule : Obligations.DebounceFollowsTheRule := by
  intro b debounceMs r now d
  by_cases hr : r = b.st
  · have hd : d = { b with prv := b.st, pend := false } := Button.debounce_of_agree hr
    rw [hd]
    exact ⟨rfl, fun _ => ⟨rfl, rfl, rfl⟩, fun hne => absurd hr hne⟩
  · obtain hwaiting | hexpired := Nat.lt_or_ge (now - b.disagreesSince now).toNat debounceMs
    · have hd : d = ⟨b.st, b.st, true, b.disagreesSince now⟩ := Button.debounce_of_waiting hr hwaiting
      rw [hd]
      exact ⟨rfl, fun heq => absurd heq hr, fun _ =>
        ⟨rfl, fun h => absurd h (Nat.not_le.mpr hwaiting), fun _ => ⟨rfl, rfl⟩⟩⟩
    · have hd : d = ⟨r, b.st, false, b.disagreesSince now⟩ := Button.debounce_of_expired hr hexpired
      rw [hd]
      exact ⟨rfl, fun heq => absurd heq hr, fun _ =>
        ⟨rfl, fun _ => ⟨rfl, rfl⟩, fun h => absurd h (Nat.not_lt.mpr hexpired)⟩⟩

/-! ## Several polls (R148) -/

/-- Two times of one window of 2^32 ms lie as far apart as their distances from its start. -/
theorem toNat_window_sub (t0 : BitVec 32) {e d : Nat} (hle : e ≤ d) (hd : d < 2 ^ 32) :
    (t0 + BitVec.ofNat 32 d - (t0 + BitVec.ofNat 32 e)).toNat = d - e := by
  bv_omega

namespace Button

section Interval

variable {b : Button} {debounceMs : Nat} {t0 : BitVec 32}

/-- A change that is pending was first seen in the window from `t0`, no later than `d` ms into it. -/
def PendingWithin (b : Button) (t0 : BitVec 32) (d : Nat) : Prop :=
  b.pend = true → ∃ e, e ≤ d ∧ b.tchg = t0 + BitVec.ofNat 32 e

theorem PendingWithin.of_idle (h : b.pend = false) (d : Nat) : b.PendingWithin t0 d :=
  fun hpend => absurd (h.symm.trans hpend) Bool.false_ne_true

theorem PendingWithin.mono {d d' : Nat} (h : b.PendingWithin t0 d) (hle : d ≤ d') : b.PendingWithin t0 d' := by
  intro hpend
  obtain ⟨e, he, htchg⟩ := h hpend
  exact ⟨e, he.trans hle, htchg⟩

theorem PendingWithin.disagreesSince_eq {d : Nat} (h : b.PendingWithin t0 d) :
    ∃ e, e ≤ d ∧ b.disagreesSince (t0 + BitVec.ofNat 32 d) = t0 + BitVec.ofNat 32 e := by
  cases hpend : b.pend with
  | false => exact ⟨d, le_rfl, disagreesSince_of_idle hpend⟩
  | true =>
    obtain ⟨e, he, htchg⟩ := h hpend
    exact ⟨e, he, (disagreesSince_of_pending hpend).trans htchg⟩

/-- A poll inside the interval keeps the state, and a change it leaves pending was first seen by then. -/
theorem PendingWithin.debounce {d : Nat} (h : b.PendingWithin t0 d) (hms : debounceMs < 2 ^ 32) (hd : d < debounceMs)
    (r : Bool) :
    (b.debounce debounceMs r (t0 + BitVec.ofNat 32 d)).st = b.st ∧
      (b.debounce debounceMs r (t0 + BitVec.ofNat 32 d)).PendingWithin t0 d := by
  by_cases hr : r = b.st
  · rw [debounce_of_agree hr]
    exact ⟨rfl, .of_idle rfl d⟩
  · obtain ⟨e, he, hsince⟩ := h.disagreesSince_eq
    have hwaiting : (t0 + BitVec.ofNat 32 d - b.disagreesSince (t0 + BitVec.ofNat 32 d)).toNat < debounceMs := by
      rw [hsince, toNat_window_sub t0 he (hd.trans hms)]
      omega
    rw [debounce_of_waiting hr hwaiting]
    exact ⟨rfl, fun _ => ⟨e, he, hsince⟩⟩

/-- The first poll that disagrees opens the interval. -/
theorem debounce_of_opening (hidle : b.pend = false) (hpos : 0 < debounceMs) :
    b.debounce debounceMs (!b.st) (t0 + BitVec.ofNat 32 0) = ⟨b.st, b.st, true, t0⟩ := by
  have hsince : b.disagreesSince (t0 + BitVec.ofNat 32 0) = t0 :=
    (disagreesSince_of_idle hidle).trans (BitVec.add_zero t0)
  rw [debounce_of_waiting (Bool.not_ne_self b.st) (by rw [hsince]; bv_omega), hsince]

/-- A button whose level has differed since `t0` stays as it is at every further poll inside the interval. -/
theorem debounce_of_held {v : Bool} {d : Nat} (hms : debounceMs < 2 ^ 32) (hd : d < debounceMs) :
    (⟨v, v, true, t0⟩ : Button).debounce debounceMs (!v) (t0 + BitVec.ofNat 32 d) = ⟨v, v, true, t0⟩ := by
  refine debounce_of_waiting (Bool.not_ne_self v) ?_
  rw [disagreesSince_of_pending rfl]
  bv_omega

/-- The first poll past the interval flips the state. -/
theorem debounce_of_held_past {v : Bool} {d : Nat} (hle : debounceMs ≤ d) (hd : d < 2 ^ 32) :
    (⟨v, v, true, t0⟩ : Button).debounce debounceMs (!v) (t0 + BitVec.ofNat 32 d) = ⟨!v, v, false, t0⟩ := by
  refine debounce_of_expired (Bool.not_ne_self v) ?_
  rw [disagreesSince_of_pending rfl]
  bv_omega

/-- Polls are taken in order (20_memory.md R66). -/
theorem debounceAll_cons (r : Bool) (now : BitVec 32) (polls : List (Bool × BitVec 32)) :
    b.debounceAll debounceMs ((r, now) :: polls) = (b.debounce debounceMs r now).debounceAll debounceMs polls := rfl

theorem debounceAll_of_held {v : Bool} {polls : List Nat} (hms : debounceMs < 2 ^ 32)
    (hpolls : ∀ d ∈ polls, d < debounceMs) :
    (⟨v, v, true, t0⟩ : Button).debounceAll debounceMs (polls.map fun d => (!v, t0 + BitVec.ofNat 32 d)) =
      ⟨v, v, true, t0⟩ := by
  induction polls with
  | nil => rfl
  | cons d ds ih =>
    obtain ⟨hd, hds⟩ := List.forall_mem_cons.mp hpolls
    rw [List.map_cons, debounceAll_cons, debounce_of_held hms hd, ih hds]

end Interval

end Button

/-- Settles O30, by induction on the polls: what is pending was first seen no later than any poll to come. -/
theorem noFlipInsideTheDebounceInterval : Obligations.NoFlipInsideTheDebounceInterval := by
  intro b debounceMs t0 polls hidle hms hsorted hinside
  have hpending : ∀ x ∈ polls, b.PendingWithin t0 x.2 := fun x _ => .of_idle hidle x.2
  clear hidle
  induction polls generalizing b with
  | nil => rfl
  | cons x xs ih =>
    obtain ⟨hx, hxs⟩ := List.forall_mem_cons.mp hinside
    obtain ⟨hfirst, hsorted⟩ := List.pairwise_cons.mp hsorted
    obtain ⟨hst, hafter⟩ := (hpending x List.mem_cons_self).debounce hms hx x.1
    exact (ih _ hsorted hxs fun y hy => hafter.mono (hfirst y hy)).trans hst

/-- Settles O31: the first poll opens the interval, the early ones change nothing, the late one flips the state, and the
poll after it agrees. -/
theorem aHeldLevelFlipsOnce : Obligations.AHeldLevelFlipsOnce := by
  intro b debounceMs t0 early late after hidle hpos hle hlate hearly
  have hms : debounceMs < 2 ^ 32 := Nat.lt_of_le_of_lt hle hlate
  have hnext : (⟨!b.st, b.st, false, t0⟩ : Button).debounce debounceMs (!b.st) after = ⟨!b.st, !b.st, false, t0⟩ :=
    Button.debounce_of_agree rfl
  dsimp only
  rw [List.map_cons, Button.debounceAll_cons, Button.debounce_of_opening hidle hpos,
    Button.debounceAll_of_held hms hearly, Button.debounce_of_held_past hle hlate, hnext]
  exact ⟨rfl, rfl, rfl, rfl, rfl, rfl, rfl⟩

/-! ## BT_POLL (R144) -/

theorem State.polled_length (s : State) : s.polled.length = s.buttons.length := List.length_mapIdx

/-- Every button is debounced against its own inverted pin (R141). -/
theorem State.polled_getD {s : State} {i : Nat} (h : i < s.buttons.length) :
    s.polled.getD i Button.atReset =
      (s.button i).debounce s.cfg.debounceMs (!s.ports.pins.getLsbD i) s.ports.now := by
  rw [List.getD_eq_getElem _ _ (s.polled_length.symm ▸ h), s.button_eq_getElem h]
  exact List.getElem_mapIdx

/-- Bit `i` of the result is button `i`'s press edge (a missing button reads as after reset, which has no edge). -/
theorem getLsbD_pressMap (bs : List Button) {i : Nat} (hi : i < 32) :
    (pressMap bs).getLsbD i = (bs.getD i Button.atReset).pressEdge := by
  rw [pressMap, BitVec.getLsbD_setWidth, BitVec.getLsbD_ofBoolListLE, decide_eq_true hi, Bool.true_and]
  exact List.getD_map bs Button.atReset Button.pressEdge

/-- Settles O28: the new buttons are the polled ones, and bits of the result past them are 0. -/
theorem btPollDebouncesEveryButton : Obligations.BtPollDebouncesEveryButton := by
  intro s hs
  have hlen : s.polled.length = s.cfg.btnCount := s.polled_length.trans hs.buttonCount
  refine ⟨_, rfl, rfl, hlen, fun i hi => s.polled_getD (hs.buttonCount.symm ▸ hi), fun i hi => ?_⟩
  refine (getLsbD_pressMap s.polled hi).trans ?_
  by_cases hbtn : i < s.cfg.btnCount
  · rw [decide_eq_true hbtn, Bool.true_and]
    rfl
  · rw [decide_eq_false hbtn, Bool.false_and, List.getD_eq_default _ _ (hlen ▸ Nat.not_lt.mp hbtn)]
    rfl

/-! ## The reads (R145 to R147) -/

theorem bitWord_eq_ite {b : Bool} {p : Prop} [Decidable p] (h : b = true ↔ p) : bitWord b = if p then 1 else 0 := by
  simp only [← h]
  cases b <;> rfl

namespace Button

variable {b : Button}

theorem pressEdge_iff : b.pressEdge = true ↔ b.st = true ∧ b.prv = false := by simp [pressEdge]

theorem releaseEdge_iff : b.releaseEdge = true ↔ b.st = false ∧ b.prv = true := by simp [releaseEdge]

end Button

/-- A read of one bit of an existing button answers 1 exactly when the bit holds. -/
theorem State.onButton_bitWord {s : State} {i : BitVec 10} (hi : i.toNat < s.cfg.btnCount) {f : Button → Bool}
    {p : Prop} [Decidable p] (hf : f (s.button i.toNat) = true ↔ p) :
    s.onButton i (fun k => s.ok (bitWord (f (s.button k)))) = s.answer 0 (if p then 1 else 0) :=
  (s.onButton_of_lt _ hi).trans (congrArg (s.answer 0) (bitWord_eq_ite hf))

/-- Settles O29: each command is its index check followed by a read of one bit. -/
theorem buttonReadCommandsReturnLevelAndEdges : Obligations.ButtonReadCommandsReturnLevelAndEdges := by
  intro s i
  refine ⟨fun hi => ?_, fun hi => ?_⟩
  · have hbad (body : Nat → State) : s.onButton i body = s.answer 8 0 := s.onButton_of_le body hi
    exact ⟨next_congr (hbad _), next_congr (hbad _), next_congr (hbad _)⟩
  · exact ⟨next_congr (State.onButton_bitWord hi (f := Button.st) Iff.rfl),
      next_congr (State.onButton_bitWord hi Button.pressEdge_iff),
      next_congr (State.onButton_bitWord hi Button.releaseEdge_iff)⟩

end Sys2Proof.Machine
end

section
/-! PROOFS. The checksum engine (42_serial.md R162, R164, R170 to R174): what a message sums to, what one changed byte does
to it, and the accumulator's commands. -/

namespace Sys2Proof.Machine

/-! ## The checksum functions (R162) -/

@[simp] theorem byteSum_nil : byteSum [] = 0 := rfl

@[simp] theorem byteSum_cons (b : BitVec 8) (B : List (BitVec 8)) : byteSum (b :: B) = b.toNat + byteSum B := rfl

@[simp] theorem dataByte_toNat (v : BitVec 7) : (dataByte v).toNat = v.toNat :=
  BitVec.toNat_setWidth_of_le (by decide)

/-- A generated checksum verifies. -/
theorem csOk_csGen (B : List (BitVec 8)) : csOk B (dataByte (csGen B)) = true := by
  rw [csOk_iff, dataByte_toNat, csGen_toNat]
  omega

/-- The checksum range is what remains past the four header bytes and before the checksum and the terminator. -/
theorem checksumRange_length (M : List (BitVec 8)) : (checksumRange M M.length).length = M.length - 6 := by
  rw [checksumRange, List.length_drop, List.length_take]
  omega

theorem checksumRange_getD {M : List (BitVec 8)} {k : Nat} (hk : k < M.length - 6) :
    (checksumRange M M.length).getD k 0 = M.getD (4 + k) 0 := by
  have hin : 4 + k < M.length - 2 := by omega
  have hlt : 4 + k < M.length := by omega
  simp [checksumRange, hin, hlt]

/-- Settles O34: the two functions by their values, and the range byte by byte. -/
theorem checksumFunctionsAgree : Obligations.ChecksumFunctionsAgree := by
  intro B c
  refine ⟨csGen_toNat B, csOk_iff B c, csOk_csGen B, fun hzero => ?_,
    fun M _ => ⟨checksumRange_length M, fun k hk => checksumRange_getD hk⟩⟩
  apply BitVec.eq_of_toNat_eq
  rw [csGen_toNat, byteSum, hzero]
  rfl

/-! ## Validation (R164) -/

/-- The bytes that validation sums: `B[4..L-2]`, the checksum range and the checksum behind it. -/
def summedBytes (B : List (BitVec 8)) (L : Nat) : List (BitVec 8) := (B.take (L - 1)).drop 4

theorem summedBytes_eq_append {B : List (BitVec 8)} {L : Nat} (hmin : 7 ≤ L) (hL : L ≤ B.length) :
    summedBytes B L = checksumRange B L ++ [B.getD (L - 2) 0] := by
  have hlast : L - 1 = L - 2 + 1 := by omega
  have hlt : L - 2 < B.length := by omega
  rw [summedBytes, hlast, List.take_succ_eq_append_getElem hlt, List.drop_append_of_le_length (by simp; omega),
    checksumRange, List.getD_eq_getElem _ _ hlt]

theorem summedBytes_eq_map {B : List (BitVec 8)} {L : Nat} (hL : L ≤ B.length) :
    summedBytes B L = (List.range (L - 5)).map fun k => B.getD (4 + k) 0 := by
  refine List.ext_getElem (by simp [summedBytes]; omega) fun k hk hk' => ?_
  have hlt : 4 + k < B.length := by simp at hk'; omega
  simp [summedBytes, hlt]

/-- A message validates when it is long enough and what validation sums is 0 modulo 128. -/
theorem validate_iff {B : List (BitVec 8)} {L : Nat} (hL : L ≤ B.length) :
    validate B L = true ↔ 7 ≤ L ∧ byteSum (summedBytes B L) % 128 = 0 := by
  rw [validate, Bool.and_eq_true, decide_eq_true_iff, csOk_iff]
  refine and_congr_right fun hmin => ?_
  rw [summedBytes_eq_append hmin hL, byteSum_append, byteSum_cons, byteSum_nil, Nat.add_zero]

/-- Settles O33: what validation sums, byte by byte. -/
theorem validationSumsFromTheCommandId : Obligations.ValidationSumsFromTheCommandId := by
  intro B L hL
  rw [validate_iff hL, summedBytes_eq_map hL, byteSum, List.map_map]
  rfl

/-! ## One changed byte (R175 (b), (c)) -/

/-- A changed header byte is not summed. -/
theorem summedBytes_set_header (B : List (BitVec 8)) (L : Nat) {k : Nat} (hk : k < 4) (v : BitVec 8) :
    summedBytes (B.set k v) L = summedBytes B L := by
  rw [summedBytes, List.take_set, List.drop_set_of_lt hk, summedBytes]

/-- A summed byte replaced: the sum loses the old one and gains the new one. -/
theorem byteSum_summedBytes_set {B : List (BitVec 8)} {L k : Nat} (hL : L ≤ B.length) (hlo : 4 ≤ k) (hhi : k + 2 ≤ L)
    (v : BitVec 8) :
    byteSum (summedBytes (B.set k v) L) + (B.getD k 0).toNat = byteSum (summedBytes B L) + v.toNat := by
  have hset : summedBytes (B.set k v) L = (summedBytes B L).set (k - 4) v := by
    rw [summedBytes, List.take_set, List.drop_set, if_neg (Nat.not_lt.mpr hlo), summedBytes]
  have hlt : k - 4 < (summedBytes B L).length := by simp [summedBytes]; omega
  have hold : (summedBytes B L)[k - 4] = B.getD k 0 := by
    have hk : k < B.length := by omega
    simp [summedBytes, hk, Nat.add_sub_cancel' hlo]
  rw [hset, ← hold]
  exact sum_map_set BitVec.toNat (summedBytes B L) hlt v

/-- A valid message with one summed byte changed is valid exactly when the byte keeps its value modulo 128. -/
theorem validate_set_iff {B : List (BitVec 8)} {L k : Nat} (hL : L ≤ B.length) (hvalid : validate B L = true)
    (hlo : 4 ≤ k) (hhi : k + 2 ≤ L) (v : BitVec 8) :
    validate (B.set k v) L = true ↔ v.toNat % 128 = (B.getD k 0).toNat % 128 := by
  obtain ⟨hmin, hsum⟩ := (validate_iff hL).mp hvalid
  have hset := byteSum_summedBytes_set hL hlo hhi v
  rw [validate_iff (List.length_set.symm ▸ hL), and_iff_right hmin]
  omega

/-- Bit 7 of a byte does not count modulo 128. -/
theorem toNat_xor_bit7_mod (b : BitVec 8) : (b ^^^ 0x80#8).toNat % 128 = b.toNat % 128 := by
  rw [BitVec.toNat_xor]
  exact (Nat.xor_mod_two_pow (n := 7)).trans (Nat.xor_zero _)

/-- Settles O40: two data bytes differ modulo 128, a byte and the byte with bit 7 changed do not. -/
theorem oneChangedDataByteIsDetected : Obligations.OneChangedDataByteIsDetected := by
  intro B L k v hL hvalid
  obtain ⟨hmin, hsum⟩ := (validate_iff hL).mp hvalid
  refine ⟨fun hlo hhi hold hnew hne => ?_, fun hk => ?_, fun hlo hhi => ?_⟩
  · refine Bool.eq_false_iff.mpr fun hvalid' => hne (BitVec.eq_of_toNat_eq ?_)
    have hmod := (validate_set_iff hL hvalid hlo (by omega) v).mp hvalid'
    rwa [Nat.mod_eq_of_lt hnew, Nat.mod_eq_of_lt hold] at hmod
  · rw [validate_iff (List.length_set.symm ▸ hL), summedBytes_set_header B L hk]
    exact ⟨hmin, hsum⟩
  · exact (validate_set_iff hL hvalid hlo (by omega) _).mpr (toNat_xor_bit7_mod _)

/-! ## The accumulator (R170 to R174) -/

/-- A 7-bit result in a word. -/
theorem setWidth_ofNat7 (n : Nat) : (BitVec.ofNat 7 n).setWidth 32 = BitVec.ofNat 32 (n % 128) := by
  rw [← BitVec.ofNat_toNat, BitVec.toNat_ofNat]

theorem State.csumPlus_toNat (s : State) (b : BitVec 8) :
    (s.csumPlus b).toNat = (s.csum.toNat + b.toNat) % 128 := BitVec.toNat_ofNat _ _

theorem State.csumPlus_eq_zero_iff (s : State) (b : BitVec 8) :
    s.csumPlus b = 0 ↔ (s.csum.toNat + b.toNat) % 128 = 0 := by
  rw [← BitVec.toNat_inj, s.csumPlus_toNat]
  rfl

theorem exec_csGen (s : State) : exec .csGen s = .next (s.answer 0 (BitVec.ofNat 32 ((128 - s.csum.toNat) % 128))) :=
  next_congr (congrArg (s.answer 0) (setWidth_ofNat7 _))

theorem exec_csVer (s : State) (b : BitVec 8) : exec (.csVer b) s =
    .next (if (s.csum.toNat + b.toNat) % 128 ≠ 0 then s.answer 5 0 else s.answer 0 1) :=
  next_congr (if_congr (not_congr (s.csumPlus_eq_zero_iff b)) rfl rfl)

/-- Settles O36: the arithmetic of the accumulator is modulo 128. -/
theorem checksumCommandsUseTheAccumulator : Obligations.ChecksumCommandsUseTheAccumulator := by
  intro s b
  refine ⟨rfl, ?_, exec_csGen s, exec_csVer s b⟩
  have hcsum : BitVec.ofNat 7 ((s.csum.toNat + b.toNat) % 128) = s.csumPlus b :=
    BitVec.eq_of_toNat_eq (by rw [s.csumPlus_toNat, BitVec.toNat_ofNat]; omega)
  rw [hcsum, ← setWidth_ofNat7]
  rfl

/-- Adding the bytes of a sequence adds its sum. -/
theorem execAll_csAdd (B : List (BitVec 8)) (s : State) :
    ∃ t, execAll (B.map .csAdd) s = .next t ∧ t.csum.toNat = (s.csum.toNat + byteSum B) % 128 := by
  induction B generalizing s with
  | nil => exact ⟨s, rfl, (Nat.mod_eq_of_lt s.csum.isLt).symm⟩
  | cons b B ih =>
    obtain ⟨t, hrun, hsum⟩ := ih ((s.setCsum (s.csumPlus b)).answer 0 ((s.csumPlus b).setWidth 32))
    refine ⟨t, hrun, hsum.trans ?_⟩
    rw [State.answer_csum, State.setCsum_csum, s.csumPlus_toNat, byteSum_cons]
    omega

/-- Settles O37: the accumulator starts at 0, so it ends as the sequence's sum modulo 128. -/
theorem checksumCommandsComputeTheChecksumOfASequence :
    Obligations.ChecksumCommandsComputeTheChecksumOfASequence := by
  intro s B
  obtain ⟨t, hrun, hadded⟩ := execAll_csAdd B ((s.setCsum 0).answer 0 0)
  have hsum : t.csum.toNat = byteSum B % 128 := hadded.trans (congrArg (· % 128) (Nat.zero_add _))
  refine ⟨t, hrun, hsum, ?_, fun c => ?_⟩
  · rw [exec_csGen, ← BitVec.ofNat_toNat, csGen_toNat, hsum]
  · simp only [exec_csVer, hsum, csOk_iff, Nat.mod_add_mod, ne_eq, ite_not]

end Sys2Proof.Machine
end

section
/-! PROOFS. The outbound builders and the rate limiter (42_serial.md R180 to R186). -/

namespace Sys2Proof.Machine

/-! ## The bytes (R181 to R184) -/

theorem eq_ofNat_of_toNat_eq {v : BitVec 8} {n : Nat} (h : v.toNat = n) : v = BitVec.ofNat 8 n := by
  rw [← h, BitVec.ofNat_toNat, BitVec.setWidth_eq]

theorem dataByte_eq_ofNat (v : BitVec 7) : dataByte v = BitVec.ofNat 8 v.toNat :=
  eq_ofNat_of_toNat_eq (dataByte_toNat v)

/-- Masking keeps the value modulo 128. -/
theorem mask7_toNat (b : BitVec 8) : (mask7 b).toNat = b.toNat % 128 :=
  (BitVec.toNat_and b 0x7F#8).trans (Nat.and_two_pow_sub_one_eq_mod b.toNat 7)

theorem mask7_eq_ofNat (b : BitVec 8) : mask7 b = BitVec.ofNat 8 (b.toNat % 128) :=
  eq_ofNat_of_toNat_eq (mask7_toNat b)

section Builders

variable {s : State}

/-- The protocol's nibble counts the channels from 0. -/
theorem State.channelNibble_toNat (hlo : 1 ≤ s.channel.toNat) : s.channelNibble.toNat = s.channel.toNat - 1 := by
  have hlt := s.channel.isLt
  simp [State.channelNibble, BitVec.toNat_sub]
  omega

theorem State.channelNibble_eq_ofNat (hlo : 1 ≤ s.channel.toNat) :
    s.channelNibble = BitVec.ofNat 8 (s.channel.toNat - 1) :=
  eq_ofNat_of_toNat_eq (State.channelNibble_toNat hlo)

/-- A status byte is its kind in the upper four bits and the channel in the lower four. -/
theorem State.or_channelNibble (kind : Nat) (hlo : 1 ≤ s.channel.toNat) (hhi : s.channel.toNat ≤ 16) :
    BitVec.ofNat 8 (16 * kind) ||| s.channelNibble = BitVec.ofNat 8 (16 * kind + (s.channel.toNat - 1)) := by
  have hnibble : s.channel.toNat - 1 < 2 ^ 4 := by omega
  rw [State.channelNibble_eq_ofNat hlo, ← BitVec.ofNat_or]
  exact congrArg _ (Nat.two_pow_add_eq_or_of_lt hnibble kind).symm

theorem State.ccBytes_eq_ofNat (hlo : 1 ≤ s.channel.toNat) (hhi : s.channel.toNat ≤ 16) (a b : BitVec 8) :
    s.ccBytes a b = [BitVec.ofNat 8 (0xB0 + (s.channel.toNat - 1)), BitVec.ofNat 8 (a.toNat % 128),
      BitVec.ofNat 8 (b.toNat % 128)] := by
  rw [State.ccBytes, mask7_eq_ofNat, mask7_eq_ofNat, ← State.or_channelNibble 11 hlo hhi]

theorem State.pcBytes_eq_ofNat (hlo : 1 ≤ s.channel.toNat) (hhi : s.channel.toNat ≤ 16) (b : BitVec 8) :
    s.pcBytes b = [BitVec.ofNat 8 (0xC0 + (s.channel.toNat - 1)), BitVec.ofNat 8 (b.toNat % 128)] := by
  rw [State.pcBytes, mask7_eq_ofNat, ← State.or_channelNibble 12 hlo hhi]

/-- An exclusive message by its numbers, for a body given by its numbers and its sum. -/
theorem State.exclusive_eq_map (hlo : 1 ≤ s.channel.toNat) {body : List (BitVec 8)} {values : List Nat} {sum : Nat}
    (hbody : body = values.map (BitVec.ofNat 8)) (hsum : byteSum body = sum) :
    s.exclusive body = ([0xF0, s.mfrId.toNat, s.channel.toNat - 1, s.modelId.toNat] ++ values ++
      [(128 - sum % 128) % 128, 0xF7]).map (BitVec.ofNat 8) := by
  rw [State.exclusive, State.channelNibble_eq_ofNat hlo, List.map_append, List.map_append, ← hbody,
    dataByte_eq_ofNat (csGen body), csGen_toNat, hsum, dataByte_eq_ofNat, dataByte_eq_ofNat]
  rfl

/-- The Data-Set's bytes by their numbers (R183). -/
theorem State.dt1Bytes_eq_map (hlo : 1 ≤ s.channel.toNat) (b : BitVec 8) :
    let sum := 0x12 + s.txa.h.toNat + s.txa.m.toNat + s.txa.l.toNat + b.toNat % 128
    s.dt1Bytes b = [0xF0, s.mfrId.toNat, s.channel.toNat - 1, s.modelId.toNat, 0x12, s.txa.h.toNat, s.txa.m.toNat,
      s.txa.l.toNat, b.toNat % 128, (128 - sum % 128) % 128, 0xF7].map (BitVec.ofNat 8) :=
  State.exclusive_eq_map hlo (values := [0x12, s.txa.h.toNat, s.txa.m.toNat, s.txa.l.toNat, b.toNat % 128])
    (by simp [Staged.bytes, dataByte_eq_ofNat, mask7_eq_ofNat]) (by simp [Staged.bytes, mask7_toNat, ← Nat.add_assoc])

/-- The Data-Request's bytes by their numbers (R184). -/
theorem State.rq1Bytes_eq_map (hlo : 1 ≤ s.channel.toNat) :
    let sum := 0x11 + s.txa.h.toNat + s.txa.m.toNat + s.txa.l.toNat + s.txs.h.toNat + s.txs.m.toNat + s.txs.l.toNat
    s.rq1Bytes = [0xF0, s.mfrId.toNat, s.channel.toNat - 1, s.modelId.toNat, 0x11, s.txa.h.toNat, s.txa.m.toNat,
      s.txa.l.toNat, s.txs.h.toNat, s.txs.m.toNat, s.txs.l.toNat, (128 - sum % 128) % 128, 0xF7].map
        (BitVec.ofNat 8) :=
  State.exclusive_eq_map hlo (values := [0x11, s.txa.h.toNat, s.txa.m.toNat, s.txa.l.toNat, s.txs.h.toNat,
    s.txs.m.toNat, s.txs.l.toNat]) (by simp [Staged.bytes, dataByte_eq_ofNat]) (by simp [Staged.bytes, ← Nat.add_assoc])

end Builders

/-! ## The rate limiter (R180) -/

/-- A slot is inside its window when its last send was less than RATE_MS ago. -/
theorem Slot.rateOk_eq_false_iff (x : Slot) (rateMs : Nat) (now : BitVec 32) :
    x.rateOk rateMs now = false ↔ x.rlValid = true ∧ (now - x.rlLast).toNat < rateMs := by
  rw [Slot.rateOk, elapsed, Bool.or_eq_false_iff, Bool.not_eq_false', decide_eq_false_iff_not, not_le]

theorem State.limitedSend_of_inside {s : State} {p : Nat} (bytes : List (BitVec 8))
    (h : (s.slot p).rlValid = true ∧ (s.ports.now - (s.slot p).rlLast).toNat < s.cfg.rateMs) :
    s.limitedSend p bytes = (s.setPorts s.ports.afterNow).answer 0 0 := by
  obtain ⟨hok, -⟩ | ⟨-, hsend⟩ := s.limitedSend_cases p bytes
  · exact absurd ((Slot.rateOk_eq_false_iff _ _ _).mpr h) (ne_of_eq_of_ne hok (by decide))
  · exact hsend

theorem State.limitedSend_of_outside {s : State} {p : Nat} (bytes : List (BitVec 8))
    (h : ¬((s.slot p).rlValid = true ∧ (s.ports.now - (s.slot p).rlLast).toNat < s.cfg.rateMs)) :
    s.limitedSend p bytes =
      ((s.setPorts (s.ports.afterNow.emit bytes)).setSlot p ((s.slot p).rateMark s.ports.now)).answer 0 1 := by
  obtain ⟨-, hsend⟩ | ⟨hsuppressed, -⟩ := s.limitedSend_cases p bytes
  · exact hsend
  · exact absurd ((Slot.rateOk_eq_false_iff _ _ _).mp hsuppressed) h

theorem State.limitedSend_eq_ite (s : State) (p : Nat) (bytes : List (BitVec 8)) :
    s.limitedSend p bytes =
      if (s.slot p).rlValid = true ∧ (s.ports.now - (s.slot p).rlLast).toNat < s.cfg.rateMs
      then (s.setPorts s.ports.afterNow).answer 0 0
      else ((s.setPorts (s.ports.afterNow.emit bytes)).setSlot p
        { s.slot p with rlValid := true, rlLast := s.ports.now }).answer 0 1 := by
  split
  case isTrue h => exact State.limitedSend_of_inside bytes h
  case isFalse h => exact State.limitedSend_of_outside bytes h

/-! ## The commands (R181 to R186) -/

/-- Settles O41: the slot check, then a rate-limited send of the three bytes. -/
theorem txCcSendsOrIsSuppressed : Obligations.TxCcSendsOrIsSuppressed := by
  intro s p a b hlo hhi
  refine ⟨fun hp => next_congr (s.onSlot_of_le _ hp), fun hp => next_congr ?_⟩
  rw [s.onSlot_of_lt _ hp, s.limitedSend_eq_ite, State.ccBytes_eq_ofNat hlo hhi]

/-- Settles O42: the Program Change by its bytes; the two loads are what the model says. -/
theorem txPcEmitsAndTheStagingRegistersLoad : Obligations.TxPcEmitsAndTheStagingRegistersLoad := by
  intro s b h m l
  refine ⟨fun hlo hhi => ?_, rfl, rfl⟩
  rw [← State.pcBytes_eq_ofNat hlo hhi]
  rfl

/-- Settles O43: the slot check, then a rate-limited send of the Data-Set. -/
theorem txDt1SendsOrIsSuppressed : Obligations.TxDt1SendsOrIsSuppressed := by
  intro s p b hlo hhi
  refine ⟨fun hp => next_congr (s.onSlot_of_le _ hp), fun hp => next_congr ?_⟩
  rw [s.onSlot_of_lt _ hp, s.limitedSend_eq_ite, State.dt1Bytes_eq_map hlo]

/-- Settles O44: the Data-Request by its bytes. -/
theorem txRq1EmitsTheDataRequest : Obligations.TxRq1EmitsTheDataRequest := by
  intro s hlo hhi sum
  rw [← State.rq1Bytes_eq_map hlo]
  rfl

/-- A rate-limited send on a slot that was marked at `last`: inside RATE_MS nothing but the time sample, and from then on
the bytes and the new mark. -/
theorem State.limitedSend_of_marked {s : State} {p : Nat} (hp : p < s.slots.length)
    (hvalid : (s.slot p).rlValid = true) (bytes : List (BitVec 8)) (hbytes : 0 < bytes.length) :
    let last := (s.slot p).rlLast
    let u := s.limitedSend p bytes
    u.rstat = 0 ∧
      ((s.ports.now - last).toNat < s.cfg.rateMs →
        u.rdata = 0 ∧ u.ports.tx = s.ports.tx ∧ u.slots = s.slots) ∧
      (s.cfg.rateMs ≤ (s.ports.now - last).toNat →
        u.rdata = 1 ∧ s.ports.tx.length < u.ports.tx.length ∧ (u.slot p).rlLast = s.ports.now) := by
  intro last u
  by_cases hnow : (s.ports.now - last).toNat < s.cfg.rateMs
  · have hu : u = _ := State.limitedSend_of_inside bytes ⟨hvalid, hnow⟩
    rw [hu]
    exact ⟨rfl, fun _ => ⟨rfl, rfl, rfl⟩, fun hge => absurd hnow (Nat.not_lt.mpr hge)⟩
  · have hu : u = _ := State.limitedSend_of_outside bytes fun ⟨_, hlt⟩ => hnow hlt
    have hmark : (u.slot p).rlLast = s.ports.now := by
      rw [hu, State.answer_slot]
      exact congrArg Slot.rlLast (State.slot_setSlot_self _ _ hp)
    have htx : u.ports.tx = s.ports.tx ++ bytes := by rw [hu]; rfl
    refine ⟨hu ▸ rfl, fun hlt => absurd hlt hnow, fun _ => ⟨hu ▸ rfl, ?_, hmark⟩⟩
    rw [htx, List.length_append]
    omega

/-- TX_CC and TX_DT1 on a slot below PARAM_COUNT are a rate-limited send of some bytes on it. -/
theorem exec_eq_limitedSend_of_slot {i : Instr} {p : BitVec 10}
    (hi : (∃ c d, i = .txCc p c d) ∨ ∃ c, i = .txDt1 p c) {s : State} (hp : p.toNat < s.cfg.paramCount) :
    ∃ bytes : List (BitVec 8), 0 < bytes.length ∧ exec i s = .next (s.limitedSend p.toNat bytes) := by
  obtain ⟨c, d, rfl⟩ | ⟨c, rfl⟩ := hi
  · exact ⟨s.ccBytes c d, by simp, next_congr (s.onSlot_of_lt _ hp)⟩
  · exact ⟨s.dt1Bytes c, by simp, next_congr (s.onSlot_of_lt _ hp)⟩

/-- Settles O45: the first send marks the slot with its time, and both commands send on the slot through its mark. -/
theorem sendsOnOneSlotShareItsWindow : Obligations.SendsOnOneSlotShareItsWindow := by
  intro s t p a b i hs hp hexec hsent hi
  have hlt : p.toNat < s.slots.length := hs.slotCount ▸ hp
  have heffect := CommandEffect.of_exec hexec
  obtain ⟨bytes, hbytes, hsend⟩ := exec_eq_limitedSend_of_slot hi (heffect.cfg_eq ▸ hp)
  have hmark : t.slot p.toNat = (s.slot p.toNat).rateMark s.ports.now := by
    cases hexec.symm.trans (next_congr (s.onSlot_of_lt _ hp))
    obtain ⟨-, h⟩ | ⟨-, h⟩ := s.limitedSend_cases p.toNat (s.ccBytes a b)
    · rw [h, State.answer_slot]
      exact State.slot_setSlot_self _ _ hlt
    · rw [h] at hsent
      exact absurd (show (0 : BitVec 32) = 1 from hsent) (by decide)
  refine ⟨_, hsend, ?_⟩
  have hwindow := State.limitedSend_of_marked (heffect.slots_length ▸ hlt) (hmark ▸ rfl) bytes hbytes
  rwa [hmark, heffect.cfg_eq] at hwindow

end Sys2Proof.Machine
end

section
/-! PROOFS. The inbound framer (42_serial.md R160 to R167): RX_BYTE in every state, the reads of the latched message, and
the messages the block builds, fed back to it (R175 (a)). -/

namespace Sys2Proof.Machine

/-! ## RX_BYTE (R163) -/

theorem rxResult_eq_ofNat (kind : BitVec 2) (v : BitVec 8) :
    rxResult kind v = BitVec.ofNat 32 (256 * kind.toNat + v.toNat) := by
  have hkind := kind.isLt
  have hv := v.isLt
  apply BitVec.eq_of_toNat_eq
  simp only [rxResult, toNat_append_eq, BitVec.toNat_ofNat]
  omega

theorem rxResult_length {L : BitVec 8} {len : Nat} (h : L.toNat = len) :
    rxResult 2 L = BitVec.ofNat 32 (0x200 + len) := h ▸ rxResult_eq_ofNat 2 L

/-- Writing the framer while it accumulates, and going on accumulating. -/
theorem State.setFramer_accumulating {s : State} (hrx : s.rxInprog = true) (len : BitVec 8) (buf : List (BitVec 8)) :
    s.setFramer true len buf = { s with rxLen := len, rxBuf := buf } := by
  rw [State.setFramer, hrx]

/-- Settles O32: the branches of RX_BYTE, and of appending, one by one; under the invariant RX_LEN does not wrap. -/
theorem rxByteFollowsTheFramer : Obligations.RxByteFollowsTheFramer := by
  intro s b hs buf len
  have hlen : (s.rxLen + 1).toNat = len := hs.rxLen_succ_toNat
  obtain ⟨hrt, h⟩ | ⟨hnot, hidle, hb, h⟩ | ⟨hnot, hidle, hb, h⟩ | ⟨hnot, hrx, h⟩ := s.rxByte_cases b
  · rw [if_pos hrt]
    exact next_congr (h.trans (congrArg (s.answer 0) (rxResult_eq_ofNat 1 b)))
  · rw [if_neg (Nat.not_le.mpr hnot), if_pos hidle, if_pos hb]
    exact next_congr h
  · rw [if_neg (Nat.not_le.mpr hnot), if_pos hidle, if_neg hb]
    exact next_congr h
  · rw [if_neg (Nat.not_le.mpr hnot), if_neg (ne_of_eq_of_ne hrx (by decide))]
    have hcases := s.rxAppend_cases b
    simp only [hlen] at hcases
    obtain ⟨hb, hvalid, happ⟩ | ⟨hb, hvalid, happ⟩ | ⟨hb, hfull, happ⟩ | ⟨hb, hroom, happ⟩ := hcases
    · obtain ⟨hbuf, hmax⟩ := hs.rxSize
      obtain ⟨hmsg, -⟩ := hs.msgSize
      have hle : len ≤ buf.length := by simp [buf, len]; omega
      rw [if_pos hb, if_pos hvalid]
      refine ⟨_, next_congr (h.trans happ), ?_, hlen, ?_, fun k hk => getD_take_append hle hk⟩
      · rw [rxResult_length hlen, eq_ofNat_of_toNat_eq hlen]
        rfl
      · simp [hmsg]
        omega
    · rw [if_pos hb, if_neg (Bool.eq_false_iff.mp hvalid)]
      exact next_congr (h.trans happ)
    · rw [if_neg hb, if_pos hfull]
      exact next_congr (h.trans happ)
    · rw [if_neg hb, if_neg hroom, ← eq_ofNat_of_toNat_eq hlen, ← State.setFramer_accumulating hrx]
      exact next_congr (h.trans happ)

/-! ## The latched message (R166, R167) -/

/-- Four bytes in a word, most significant first. -/
theorem append_bytes_eq_ofNat (a b c d : BitVec 8) : a ++ b ++ c ++ d =
    BitVec.ofNat 32 (16777216 * a.toNat + 65536 * b.toNat + 256 * c.toNat + d.toNat) := by
  have ha := a.isLt
  have hb := b.isLt
  have hc := c.isLt
  have hd := d.isLt
  apply BitVec.eq_of_toNat_eq
  simp only [toNat_append_eq, BitVec.toNat_ofNat]
  omega

/-- Settles O35: both commands answer as stated, with the results by their values. -/
theorem latchedMessageIsReadByteAndDataSet : Obligations.LatchedMessageIsReadByteAndDataSet := by
  intro s k
  rw [← append_bytes_eq_ofNat, BitVec.ofNat_toNat]
  exact ⟨rfl, rfl⟩

/-! ## A message fed to the framer -/

/-- The framer has accumulated the bytes `B` (R160). -/
structure State.Accumulated (s : State) (B : List (BitVec 8)) : Prop where
  inv : s.Inv
  inprog : s.rxInprog = true
  len : s.rxLen.toNat = B.length
  bytes : s.rxBuf.take B.length = B

/-- RX_BYTE has just accepted and latched the message `M` (R163). -/
structure State.Accepted (s : State) (M : List (BitVec 8)) : Prop where
  rstat : s.rstat = 0
  rdata : s.rdata = BitVec.ofNat 32 (0x200 + M.length)
  valid : s.msgValid = true
  len : s.msgLen = BitVec.ofNat 8 M.length
  bytes : s.msg.take M.length = M
  idle : s.rxInprog = false

theorem take_succ_set {B : List (BitVec 8)} {n : Nat} (h : n < B.length) (b : BitVec 8) :
    (B.set n b).take (n + 1) = B.take n ++ [b] := by
  have h' : n < (B.set n b).length := by simpa using h
  rw [List.take_succ_eq_append_getElem h', List.take_set_of_le (Nat.le_refl n), List.getElem_set_self]

/-- A start byte in Idle begins a message. -/
theorem exec_rxByte_start {s : State} (hs : s.Inv) (hidle : s.rxInprog = false) :
    ∃ t, exec (.rxByte startByte) s = .next t ∧ t.cfg = s.cfg ∧ t.Accumulated [startByte] := by
  obtain ⟨hmin, -⟩ := hs.cfgLegal.sysexMax_range
  obtain ⟨hbuf, -⟩ := hs.rxSize
  have hpos : 0 < s.rxBuf.length := by omega
  have hexec : exec (.rxByte startByte) s =
      .next ((s.setFramer true 1 (s.rxBuf.set 0 startByte)).answer 0 0) := by
    refine next_congr ?_
    rw [State.rxByte, hidle]
    rfl
  exact ⟨_, hexec, rfl, (CommandEffect.of_exec hexec).inv hs, rfl, rfl, take_succ_set hpos startByte⟩

section Accumulating

variable {s : State} {B : List (BitVec 8)}

theorem State.rxByte_of_inprog (hrx : s.rxInprog = true) {b : BitVec 8} (hb : b.toNat < 0xF8) :
    s.rxByte b = s.rxAppend b := by
  have hnot : isRealTime b = false := decide_eq_false (Nat.not_le.mpr hb)
  simp [State.rxByte, hrx, hnot]

namespace State.Accumulated

theorem length_lt (h : s.Accumulated B) : B.length < s.rxBuf.length := by
  obtain ⟨hbuf, hmax⟩ := h.inv.rxSize
  have hlen := h.len
  omega

theorem rxLen_succ_toNat (h : s.Accumulated B) : (s.rxLen + 1).toNat = B.length + 1 :=
  h.inv.rxLen_succ_toNat.trans (congrArg (· + 1) h.len)

/-- The bytes and one more, in the buffer. -/
theorem take_set (h : s.Accumulated B) (b : BitVec 8) :
    (s.rxBuf.set s.rxLen.toNat b).take (B.length + 1) = B ++ [b] := by
  rw [h.len, take_succ_set h.length_lt, h.bytes]

/-- A byte that is neither a real-time byte nor the terminator is accumulated while there is room. -/
theorem exec_rxByte (h : s.Accumulated B) {b : BitVec 8} (hb : b.toNat < 0xF7)
    (hroom : B.length + 1 < s.cfg.sysexMax) :
    ∃ t, exec (.rxByte b) s = .next t ∧ t.cfg = s.cfg ∧ t.Accumulated (B ++ [b]) := by
  have hrx : s.rxByte b = s.rxAppend b := State.rxByte_of_inprog h.inprog (by omega)
  have hlen := h.rxLen_succ_toNat
  have hne : b ≠ 0xF7#8 := fun heq => absurd (heq ▸ hb) (by decide)
  obtain ⟨hend, -⟩ | ⟨hend, -⟩ | ⟨-, hfull, -⟩ | ⟨-, -, happ⟩ := s.rxAppend_cases b
  · exact absurd hend hne
  · exact absurd hend hne
  · exact absurd (hlen.symm.trans hfull) (Nat.ne_of_lt hroom)
  · have hexec : exec (.rxByte b) s = .next _ := next_congr (hrx.trans happ)
    refine ⟨_, hexec, rfl, (CommandEffect.of_exec hexec).inv h.inv, rfl, ?_, ?_⟩
    · rw [List.length_append]
      exact hlen
    · rw [List.length_append]
      exact h.take_set b

/-- The bytes of a message one after the other. -/
theorem execAll_rxByte {bytes : List (BitVec 8)} (h : s.Accumulated B) (hbytes : ∀ b ∈ bytes, b.toNat < 0xF7)
    (hroom : B.length + bytes.length < s.cfg.sysexMax) :
    ∃ t, execAll (bytes.map .rxByte) s = .next t ∧ t.cfg = s.cfg ∧ t.Accumulated (B ++ bytes) := by
  induction bytes generalizing s B with
  | nil => exact ⟨s, rfl, rfl, (List.append_nil B).symm ▸ h⟩
  | cons b bytes ih =>
    rw [List.length_cons] at hroom
    obtain ⟨u, hexec, hcfg, hu⟩ := h.exec_rxByte (hbytes b List.mem_cons_self) (by omega)
    obtain ⟨t, hrun, hcfg', ht⟩ := ih hu (fun c hc => hbytes c (List.mem_cons_of_mem b hc))
      (by rw [hcfg, List.length_append, List.length_singleton]; omega)
    exact ⟨t, (execAll_cons hexec _).trans hrun, hcfg'.trans hcfg, (List.append_cons B b bytes).symm ▸ ht⟩

/-- The terminator of a message that validates latches it. -/
theorem exec_rxByte_end (h : s.Accumulated B) (hvalid : validate (B ++ [endByte]) (B.length + 1) = true) :
    ∃ t, exec (.rxByte endByte) s = .next t ∧ t.Accepted (B ++ [endByte]) := by
  have hrx : s.rxByte endByte = s.rxAppend endByte := State.rxByte_of_inprog h.inprog (by decide)
  have hlen := h.rxLen_succ_toNat
  have htake := h.take_set endByte
  have hbuf : validate (s.rxBuf.set s.rxLen.toNat endByte) (s.rxLen + 1).toNat = true := by
    rw [hlen, ← validate_take, htake, hvalid]
  obtain ⟨-, -, happ⟩ | ⟨-, hinvalid, -⟩ | ⟨hne, -⟩ | ⟨hne, -⟩ := s.rxAppend_cases endByte
  · have hlength : (B ++ [endByte]).length = B.length + 1 := List.length_append
    have hmsg : ((s.rxBuf.set s.rxLen.toNat endByte).take (s.rxLen + 1).toNat ++
        s.msg.drop (s.rxLen + 1).toNat).take (B ++ [endByte]).length = B ++ [endByte] := by
      rw [hlen, htake, List.take_left]
    refine ⟨_, next_congr (hrx.trans happ), rfl, ?_, rfl, ?_, hmsg, rfl⟩
    · rw [hlength]
      exact rxResult_length hlen
    · rw [hlength]
      exact eq_ofNat_of_toNat_eq hlen
  · exact absurd hinvalid (ne_of_eq_of_ne hbuf (by decide))
  · exact absurd rfl hne
  · exact absurd rfl hne

end State.Accumulated

end Accumulating

/-- An idle framer accepts every framed message that validates and that it has room for. -/
theorem execAll_rxByte_accepts {s : State} (hs : s.Inv) (hidle : s.rxInprog = false) {bytes : List (BitVec 8)}
    (hbytes : ∀ b ∈ bytes, b.toNat < 0xF7) (hroom : bytes.length + 2 ≤ s.cfg.sysexMax)
    (hvalid : validate (startByte :: bytes ++ [endByte]) (bytes.length + 2) = true) :
    ∃ t, execAll ((startByte :: bytes ++ [endByte]).map .rxByte) s = .next t ∧
      t.Accepted (startByte :: bytes ++ [endByte]) := by
  obtain ⟨u, hstart, hcfg, hu⟩ := exec_rxByte_start hs hidle
  obtain ⟨v, hrun, -, hv⟩ := hu.execAll_rxByte hbytes (by rw [hcfg, List.length_singleton]; omega)
  obtain ⟨t, hend, ht⟩ := hv.exec_rxByte_end hvalid
  refine ⟨t, ?_, ht⟩
  calc execAll ((startByte :: bytes ++ [endByte]).map .rxByte) s
      = execAll (bytes.map .rxByte ++ [.rxByte endByte]) u := by
        rw [List.cons_append, List.map_cons, List.map_append, execAll_cons hstart]
        rfl
    _ = execAll [.rxByte endByte] v := execAll_append hrun _
    _ = .next t := execAll_cons hend []

/-! ## The block's own messages (R175 (a)) -/

/-- The bytes of an exclusive message between its start byte and its terminator. -/
def State.exclusiveData (s : State) (body : List (BitVec 8)) : List (BitVec 8) :=
  [dataByte s.mfrId, s.channelNibble, dataByte s.modelId] ++ body ++ [dataByte (csGen body)]

section Exclusive

variable {s : State} {body : List (BitVec 8)}

theorem State.exclusive_eq_framed : s.exclusive body = startByte :: s.exclusiveData body ++ [endByte] := by
  simp [State.exclusive, State.exclusiveData]

@[simp] theorem State.exclusiveData_length : (s.exclusiveData body).length = body.length + 4 := by
  simp [State.exclusiveData]

theorem data7_toNat_lt (v : BitVec 7) : v.toNat < 128 := v.isLt

/-- Around a body of 7-bit bytes all the data bytes are 7-bit bytes. -/
theorem State.exclusiveData_lt (hs : s.Inv) (hbody : ∀ b ∈ body, b.toNat < 128) :
    ∀ b ∈ s.exclusiveData body, b.toNat < 128 := by
  obtain ⟨hlo, hhi⟩ := hs.channelRange
  have hnibble : s.channelNibble.toNat < 128 := by
    rw [State.channelNibble_toNat hlo]
    omega
  simpa [State.exclusiveData, or_imp, forall_and, data7_toNat_lt, hnibble] using hbody

/-- The checksum range of an exclusive message is its body, whose checksum the message carries. -/
theorem State.validate_exclusive (hpos : 1 ≤ body.length) :
    validate (s.exclusive body) (body.length + 6) = true := by
  have hrange : checksumRange (s.exclusive body) (body.length + 6) = body := by
    simp [checksumRange, State.exclusive]
  have hcheck : (s.exclusive body).getD (body.length + 4) 0 = dataByte (csGen body) := by
    simp [State.exclusive]
  rw [validate, hrange, Nat.add_sub_cancel_right (body.length + 4) 2, hcheck, csOk_csGen, Bool.and_true]
  exact decide_eq_true (by omega)

/-- The block accepts back every exclusive message it builds around a body of 7-bit bytes. -/
theorem State.exclusive_accepted (hs : s.Inv) (hidle : s.rxInprog = false) (hpos : 1 ≤ body.length)
    (hbody : ∀ b ∈ body, b.toNat < 128) (hroom : body.length + 6 ≤ s.cfg.sysexMax) :
    ∃ t, execAll ((s.exclusive body).map .rxByte) s = .next t ∧ t.Accepted (s.exclusive body) := by
  have hvalid := State.validate_exclusive (s := s) hpos
  rw [State.exclusive_eq_framed] at hvalid ⊢
  refine execAll_rxByte_accepts hs hidle (fun b hb => ?_) ?_ ?_
  · exact (State.exclusiveData_lt hs hbody b hb).trans (by decide)
  · rwa [State.exclusiveData_length]
  · rwa [State.exclusiveData_length]

end Exclusive

/-- The latched bytes are those of the accepted message. -/
theorem State.Accepted.msg_getD {t : State} {M : List (BitVec 8)} (h : t.Accepted M) {k : Nat} (hk : k < M.length) :
    t.msg.getD k 0 = M.getD k 0 := by
  conv_rhs => rw [← h.bytes]
  simp [hk]

/-- Settles O38: the Data-Set is an exclusive message, and RX_DT1 reads its address and value. -/
theorem emittedDataSetIsAcceptedBack : Obligations.EmittedDataSetIsAcceptedBack := by
  intro s b hs hidle hroom
  have hbody : ∀ c ∈ 0x12#8 :: s.txa.bytes ++ [mask7 b], c.toNat < 128 := by
    have hmask : (mask7 b).toNat < 128 := mask7_toNat b ▸ Nat.mod_lt _ (by decide)
    simp [Staged.bytes, data7_toNat_lt, hmask]
  obtain ⟨t, hrun, ht⟩ := State.exclusive_accepted hs hidle (by simp) hbody hroom
  have hmsg : ∀ k, k < 11 → t.msg.getD k 0 = (s.dt1Bytes b).getD k 0 := fun k hk => ht.msg_getD hk
  have hlen : t.msgLen = 11 := ht.len
  refine ⟨t, hrun, ht.rstat, ht.rdata, ht.valid, hlen, ht.bytes, ht.idle, ?_⟩
  obtain ⟨-, hparse⟩ := latchedMessageIsReadByteAndDataSet t 0
  have hdataSet : ¬(t.msgValid = false ∨ t.msgLen.toNat < 11 ∨ t.msg.getD 4 0 ≠ 0x12#8) := by
    rw [ht.valid, hlen, hmsg 4 (by decide)]
    simp [State.dt1Bytes, State.exclusive]
  rw [hparse, if_neg hdataSet, hmsg 5 (by decide), hmsg 6 (by decide), hmsg 7 (by decide), hmsg 8 (by decide)]
  simp [State.dt1Bytes, State.exclusive, Staged.bytes, mask7_toNat]

/-- Settles O39: the Data-Request is an exclusive message, whose command id is not a Data-Set's. -/
theorem emittedDataRequestIsAcceptedBack : Obligations.EmittedDataRequestIsAcceptedBack := by
  intro s hs hidle hroom
  have hbody : ∀ c ∈ 0x11#8 :: s.txa.bytes ++ s.txs.bytes, c.toNat < 128 := by
    simp [Staged.bytes, data7_toNat_lt]
  obtain ⟨t, hrun, ht⟩ := State.exclusive_accepted hs hidle (by simp) hbody hroom
  refine ⟨t, hrun, ht.rstat, ht.rdata, ht.valid, ht.len, ht.bytes, ht.idle, ?_⟩
  obtain ⟨-, hparse⟩ := latchedMessageIsReadByteAndDataSet t 0
  have hrequest : t.msg.getD 4 0 = 0x11#8 := ht.msg_getD (show 4 < 13 by decide)
  rw [hparse, if_pos (.inr (.inr (ne_of_eq_of_ne hrequest (by decide))))]

end Sys2Proof.Machine
end

section
/-! PROOFS. The parameter-change detector (43_param.md R220 to R224): what its commands return and write, and where the
filter goes under a constant input. -/

namespace Sys2Proof

/-- The alpha of a legal entry is at most 1.0 (00_scope.md R7). -/
theorem PdEntry.Legal.alpha_le {e : PdEntry} (h : e.Legal) : e.alpha ≤ 65536 := by
  obtain ⟨-, -, -, -, -, halpha⟩ := h
  exact halpha

end Sys2Proof

namespace Sys2Proof.Machine

/-! ## The committed and the previous value (R222, R223) -/

theorem exec_pdGet {s : State} {p : BitVec 10} (hp : p.toNat < s.cfg.paramCount) :
    exec (.pdGet p) s = .next (s.answer 0 (BitVec.ofNat 32 (s.slot p.toNat).pdVal.toNat)) :=
  next_congr ((s.onSlot_of_lt _ hp).trans (congrArg (s.answer 0) (BitVec.ofNat_toNat ..).symm))

theorem exec_pdPrev {s : State} {p : BitVec 10} (hp : p.toNat < s.cfg.paramCount) :
    exec (.pdPrev p) s = .next (s.answer 0 (BitVec.ofNat 32 (s.slot p.toNat).pdPrev.toNat)) :=
  next_congr ((s.onSlot_of_lt _ hp).trans (congrArg (s.answer 0) (BitVec.ofNat_toNat ..).symm))

/-- Settles O47: both commands read one field of the slot. -/
theorem pdGetAndPdPrevReturnTheSlot : Obligations.PdGetAndPdPrevReturnTheSlot := fun s _ =>
  ⟨fun hp => ⟨next_congr (s.onSlot_of_le _ hp), next_congr (s.onSlot_of_le _ hp)⟩,
    fun hp => ⟨exec_pdGet hp, exec_pdPrev hp⟩⟩

/-! ## The filter on integers (R221) -/

theorem Slot.filtered_eq (x : Slot) (e : PdEntry) (input : Int) :
    x.filtered e input = x.pdAcc.toInt + e.alpha * (input * 65536 - x.pdAcc.toInt) / 65536 := by
  rw [Slot.filtered, shiftRight_pdFrac]
  rfl

theorem Slot.rounded_eq (x : Slot) : x.rounded = (x.pdAcc.toInt + 32768) / 65536 := by
  rw [Slot.rounded, shiftRight_pdFrac]

/-- R221's `diff`: how far the input lies above the accumulator, in accumulator units. -/
def Slot.gap (x : Slot) (input : Int) : Int := input * 65536 - x.pdAcc.toInt

/-- R224 (a)'s range of the accumulator. -/
def Slot.AccInRange (e : PdEntry) (x : Slot) : Prop :=
  e.min * 65536 ≤ x.pdAcc.toInt ∧ x.pdAcc.toInt ≤ e.max * 65536

section Filter

variable {e : PdEntry} {x : Slot} {input : Int}

theorem Slot.AccInRange.filter (h : x.AccInRange e) (he : e.Legal) (hin : e.min ≤ input ∧ input ≤ e.max) :
    (x.filter e input).AccInRange e := by
  rw [Slot.AccInRange, Slot.filter_pdAcc_toInt he hin h]
  exact Slot.filtered_mem he hin h

/-- The filter takes its share of the gap away. -/
theorem Slot.AccInRange.filter_gap (h : x.AccInRange e) (he : e.Legal) (hin : e.min ≤ input ∧ input ≤ e.max) :
    (x.filter e input).gap input = x.gap input - e.alpha * x.gap input / 65536 := by
  rw [Slot.gap, Slot.filter_pdAcc_toInt he hin h, Slot.filtered_eq, ← Slot.gap]
  exact (sub_sub ..).symm

/-- From below, the filter goes up and not past the input. -/
theorem Slot.AccInRange.filter_gap_of_nonneg (h : x.AccInRange e) (he : e.Legal)
    (hin : e.min ≤ input ∧ input ≤ e.max) (hgap : 0 ≤ x.gap input) :
    0 ≤ (x.filter e input).gap input ∧ (x.filter e input).gap input ≤ x.gap input := by
  have hshare := share_of_nonneg he.alpha_le hgap
  rw [h.filter_gap he hin]
  omega

/-- From above, the filter goes down and not past the input. -/
theorem Slot.AccInRange.filter_gap_of_nonpos (h : x.AccInRange e) (he : e.Legal)
    (hin : e.min ≤ input ∧ input ≤ e.max) (hgap : x.gap input ≤ 0) :
    x.gap input ≤ (x.filter e input).gap input ∧ (x.filter e input).gap input ≤ 0 := by
  have hshare := share_of_nonpos he.alpha_le hgap
  rw [h.filter_gap he hin]
  omega

/-- A step that moves the accumulator brings it nearer to the input. -/
theorem Slot.AccInRange.filter_gap_natAbs_lt (h : x.AccInRange e) (he : e.Legal)
    (hin : e.min ≤ input ∧ input ≤ e.max) (hmoves : e.alpha * x.gap input / 65536 ≠ 0) :
    ((x.filter e input).gap input).natAbs < (x.gap input).natAbs := by
  rw [h.filter_gap he hin]
  rcases le_total 0 (x.gap input) with hgap | hgap
  · have hshare := share_of_nonneg he.alpha_le hgap
    omega
  · have hshare := share_of_nonpos he.alpha_le hgap
    omega

end Filter

/-- Settles O48: the step is a share of the gap, of the gap's sign and no longer than it. -/
theorem pdFilterStaysInRangeAndNeverOvershoots : Obligations.PdFilterStaysInRangeAndNeverOvershoots := by
  intro e x input he hlo hhi hmin hmax y
  have hx : x.AccInRange e := ⟨hmin, hmax⟩
  have hy : y.AccInRange e := hx.filter he ⟨hlo, hhi⟩
  refine ⟨hy.1, hy.2, fun hle => ?_, fun hge => ?_, Slot.rounded_mem hy⟩
  · obtain ⟨hstop, hup⟩ := hx.filter_gap_of_nonneg he ⟨hlo, hhi⟩ (sub_nonneg.mpr hle)
    exact ⟨(sub_le_sub_iff_left _).mp hup, sub_nonneg.mp hstop⟩
  · obtain ⟨hdown, hstop⟩ := hx.filter_gap_of_nonpos he ⟨hlo, hhi⟩ (sub_nonpos.mpr hge)
    exact ⟨sub_nonpos.mp hstop, (sub_le_sub_iff_left _).mp hdown⟩

/-! ## Settling under a constant input (R224 (c)) -/

section Settle

variable {e : PdEntry} {x : Slot} {input : Int}

theorem Slot.AccInRange.settle (h : x.AccInRange e) (he : e.Legal) (hin : e.min ≤ input ∧ input ≤ e.max) (k : Nat) :
    (x.settle e input k).AccInRange e := by
  induction k with
  | zero => exact h
  | succ k ih => exact ih.filter he hin

/-- From below the accumulator stays below. -/
theorem Slot.AccInRange.settle_gap_nonneg (h : x.AccInRange e) (he : e.Legal) (hin : e.min ≤ input ∧ input ≤ e.max)
    (hgap : 0 ≤ x.gap input) (k : Nat) : 0 ≤ (x.settle e input k).gap input := by
  induction k with
  | zero => exact hgap
  | succ k ih => exact ((h.settle he hin k).filter_gap_of_nonneg he hin ih).1

/-- From above the accumulator stays above. -/
theorem Slot.AccInRange.settle_gap_nonpos (h : x.AccInRange e) (he : e.Legal) (hin : e.min ≤ input ∧ input ≤ e.max)
    (hgap : x.gap input ≤ 0) (k : Nat) : (x.settle e input k).gap input ≤ 0 := by
  induction k with
  | zero => exact hgap
  | succ k ih => exact ((h.settle he hin k).filter_gap_of_nonpos he hin ih).2

/-- The filter comes to rest: the distance to the input cannot shrink for ever, and a step of 0 repeats. -/
theorem Slot.AccInRange.settle_rests (h : x.AccInRange e) (he : e.Legal) (hin : e.min ≤ input ∧ input ≤ e.max) :
    ∃ k, ∀ j, k ≤ j → e.alpha * (x.settle e input j).gap input / 65536 = 0 := by
  obtain ⟨k, hnearest⟩ : ∃ k,
      ¬((x.settle e input (k + 1)).gap input).natAbs < ((x.settle e input k).gap input).natAbs :=
    ⟨_, Function.not_lt_argmin (fun k => ((x.settle e input k).gap input).natAbs) _⟩
  refine ⟨k, fun j hj => ?_⟩
  induction j, hj using Nat.le_induction with
  | base =>
    by_contra hmoves
    exact hnearest ((h.settle he hin k).filter_gap_natAbs_lt he hin hmoves)
  | succ j _ ih => rw [Slot.settle, (h.settle he hin j).filter_gap he hin, ih, sub_zero, ih]

/-- A slot less than half a unit below the input rounds to it. -/
theorem Slot.rounded_eq_of_gap (hlo : 0 ≤ x.gap input) (hhi : x.gap input < 32768) : x.rounded = input := by
  rw [Slot.gap] at hlo hhi
  rw [Slot.rounded_eq]
  omega

end Settle

/-- Settles O49: at rest the share of the gap is 0, which from above leaves no gap and from below a gap under
`65536 / alpha`. -/
theorem pdFilterSettlesUnderAConstantInput : Obligations.PdFilterSettlesUnderAConstantInput := by
  intro e x input he halpha hlo hhi hmin hmax
  have hx : x.AccInRange e := ⟨hmin, hmax⟩
  have hpos : (0 : Int) < e.alpha := by exact_mod_cast halpha
  obtain ⟨k, hrest⟩ := hx.settle_rests he ⟨hlo, hhi⟩
  refine ⟨fun hge => ⟨k, ?_⟩, fun hlt => ⟨k, fun j hj => ?_⟩⟩
  · have hgap := hx.settle_gap_nonpos he ⟨hlo, hhi⟩ (sub_nonpos.mpr hge) k
    have hshare := hrest k le_rfl
    have hnonneg : 0 ≤ (x.settle e input k).gap input := nonneg_of_mul_nonneg_right (by omega) hpos
    exact (sub_eq_zero.mp (le_antisymm hgap hnonneg)).symm
  · have hgap := hx.settle_gap_nonneg he ⟨hlo, hhi⟩ (sub_nonneg.mpr hlt.le) j
    have hshare := hrest j hj
    have hdist : (x.settle e input j).gap input * e.alpha < 65536 := by rw [mul_comm]; omega
    refine ⟨sub_nonneg.mp hgap, hdist, fun htwo => Slot.rounded_eq_of_gap hgap ?_⟩
    have htwice : (x.settle e input j).gap input * 2 ≤ (x.settle e input j).gap input * e.alpha := by
      gcongr
      exact_mod_cast htwo
    omega

/-! ## PD_UPDATE (R220, R221) -/

theorem pdResult_eq (c : Bool) (v : BitVec 16) : pdResult c v = BitVec.ofNat 32 (c.toNat * 65536 + v.toNat) := by
  apply BitVec.eq_of_toNat_eq
  have hc := c.toNat_lt
  simp only [pdResult, toNat_append_eq, BitVec.toNat_ofBool, BitVec.toNat_ofNat]
  omega

/-- A committed value fits its 16 bits (43_param.md R224 (a)). -/
theorem Slot.AccInRange.commit_pdVal_toInt {e : PdEntry} {x : Slot} (h : x.AccInRange e) (he : e.Legal) :
    x.commit.pdVal.toInt = x.rounded := by
  obtain ⟨hlo, hhi⟩ := Slot.rounded_mem h
  obtain ⟨hmin, -, hmax, -⟩ := he
  exact BitVec.toInt_ofInt_eq_self (by decide) (by simp; omega) (by simp; omega)

/-- An accepted input commits the filtered slot past the deadband and only filters the slot within it. -/
theorem State.pdAccept_cases (s : State) (p : Nat) (input : Int) :
    let x := (s.slot p).filter (s.cfg.pd p) input
    (s.cfg.pdDeadband < (x.rounded - x.pdVal.toInt).natAbs ∧ s.pdAccept p input =
      (s.setSlot p x.commit).answer 0 (BitVec.ofNat 32 (65536 + x.commit.pdVal.toNat))) ∨
    (¬ s.cfg.pdDeadband < (x.rounded - x.pdVal.toInt).natAbs ∧ s.pdAccept p input =
      (s.setSlot p x).answer 0 (BitVec.ofNat 32 x.pdVal.toNat)) := by
  intro x
  by_cases h : s.cfg.pdDeadband < (x.rounded - x.pdVal.toInt).natAbs
  · have hmoved : x.moved s.cfg.pdDeadband = true := decide_eq_true h
    exact .inl ⟨h, by simp [State.pdAccept, x, hmoved, pdResult_eq]⟩
  · have hmoved : x.moved s.cfg.pdDeadband = false := decide_eq_false h
    exact .inr ⟨h, by simp [State.pdAccept, x, hmoved, pdResult_eq]⟩

section Update

variable {s : State} {p : BitVec 10} {imm : BitVec 16}

theorem exec_pdUpdate_outOfRange (hp : p.toNat < s.cfg.paramCount)
    (hout : imm.toInt < (s.cfg.pd p.toNat).min ∨ (s.cfg.pd p.toNat).max < imm.toInt) :
    exec (.pdUpdate p imm) s = .next (s.answer 3 0) :=
  next_congr ((s.onSlot_of_lt _ hp).trans (if_pos hout))

theorem exec_pdUpdate_inRange (hp : p.toNat < s.cfg.paramCount) (hlo : (s.cfg.pd p.toNat).min ≤ imm.toInt)
    (hhi : imm.toInt ≤ (s.cfg.pd p.toNat).max) :
    exec (.pdUpdate p imm) s = .next (s.pdAccept p.toNat imm.toInt) :=
  next_congr ((s.onSlot_of_lt _ hp).trans (if_neg (not_or.mpr ⟨not_lt.mpr hlo, not_lt.mpr hhi⟩)))

end Update

/-- Settles O46: an input in range filters the slot, and the filtered slot is kept or committed. -/
theorem pdUpdateFiltersAndCommits : Obligations.PdUpdateFiltersAndCommits := by
  intro s p imm hs
  refine ⟨fun hp => next_congr (s.onSlot_of_le _ hp), fun hp => ?_⟩
  intro e x acc r
  refine ⟨exec_pdUpdate_outOfRange hp, fun hlo hhi => ?_⟩
  have he : e.Legal := hs.cfgLegal.pd_legal hp
  obtain ⟨hx, -⟩ : x.Inv e := hs.slotInv _ hp
  have hy : (x.filter e imm.toInt).AccInRange e := Slot.AccInRange.filter hx he ⟨hlo, hhi⟩
  have hacc : (x.filter e imm.toInt).pdAcc.toInt = acc :=
    (Slot.filter_pdAcc_toInt he ⟨hlo, hhi⟩ hx).trans (x.filtered_eq e _)
  have hr : (x.filter e imm.toInt).rounded = r := by rw [Slot.rounded_eq, hacc]
  rw [exec_pdUpdate_inRange hp hlo hhi]
  obtain ⟨hmoved, h⟩ | ⟨hstill, h⟩ := s.pdAccept_cases p.toNat imm.toInt
  · refine ⟨_, _, next_congr h, rfl, rfl, hacc, ?_⟩
    rw [if_pos (hr ▸ hmoved)]
    exact ⟨rfl, (hy.commit_pdVal_toInt he).trans hr, rfl⟩
  · refine ⟨_, _, next_congr h, rfl, rfl, hacc, ?_⟩
    rw [if_neg (hr ▸ hstill)]
    exact ⟨rfl, rfl, rfl⟩

end Sys2Proof.Machine
end

section
/-! PROOFS. The control commands (44_control.md R240 to R242): the registers by their values, what an accepted write
leaves to be read, and the order of CR_WR's checks. -/

namespace Sys2Proof.Machine

/-! ## The registers by their values (10_state.md R42) -/

/-- RXSTAT by its fields. -/
theorem State.rxstat_eq_ofNat (s : State) : s.rxstat = BitVec.ofNat 32 (s.rxInprog.toNat + 2 * s.msgValid.toNat +
    256 * s.rxLen.toNat + 65536 * (if s.msgValid then s.msgLen.toNat else 0)) := by
  have hinprog := s.rxInprog.toNat_lt
  have hvalid := s.msgValid.toNat_lt
  have hlen := s.rxLen.isLt
  have hmsg := (if s.msgValid then s.msgLen else 0#8).isLt
  apply BitVec.eq_of_toNat_eq
  simp only [State.rxstat, toNat_append_eq, BitVec.toNat_ofBool, BitVec.toNat_ofNat, apply_ite BitVec.toNat,
    Nat.zero_mod] at hmsg ⊢
  omega

/-- A staging register by its fields. -/
theorem Staged.packed_eq_ofNat (a : Staged) :
    a.packed = BitVec.ofNat 32 (16384 * a.h.toNat + 128 * a.m.toNat + a.l.toNat) := by
  have hh := a.h.isLt
  have hm := a.m.isLt
  have hl := a.l.isLt
  apply BitVec.eq_of_toNat_eq
  simp only [Staged.packed, toNat_append_eq, BitVec.toNat_ofNat]
  omega

/-! ## The register check (20_memory.md R60) -/

theorem exec_crRd {r : BitVec 10} (hr : r.toNat ≤ 7) (s : State) :
    exec (.crRd r) s = .next (s.answer 0 (s.crValue r.toNat)) := next_congr (if_neg (Nat.not_lt.mpr hr))

theorem exec_crWr {r : BitVec 10} (hr : r.toNat ≤ 7) (v : BitVec 16) (s : State) :
    exec (.crWr r v) s = .next (s.crWrite v r.toNat) := next_congr (if_neg (Nat.not_lt.mpr hr))

theorem exec_crRd_above {r : BitVec 10} (hr : 7 < r.toNat) (s : State) : exec (.crRd r) s = .next (s.answer 8 0) :=
  next_congr (s.onRegister_of_le _ hr)

theorem exec_crWr_above {r : BitVec 10} (hr : 7 < r.toNat) (v : BitVec 16) (s : State) :
    exec (.crWr r v) s = .next (s.answer 8 0) := next_congr (s.onRegister_of_le _ hr)

/-! ## What a write leaves to be read -/

theorem State.crWrite_of_readOnly {n : Nat} (hn : 4 ≤ n) (s : State) (v : BitVec 16) :
    s.crWrite v n = s.answer 7 0 := by
  match n with
  | _ + 4 => rfl

/-- A value that fits the register's field loses nothing in it. -/
theorem setWidth_of_fits {n : Nat} {v : BitVec 16} (h : v.toNat < 2 ^ n) :
    (v.setWidth n).setWidth 32 = v.setWidth 32 := by
  apply BitVec.eq_of_toNat_eq
  simp only [BitVec.toNat_setWidth, Nat.mod_eq_of_lt h]

/-- A write behind a check is read back as `x` when it answers OK, if it would be past the check. -/
theorem State.crValue_of_not_raised {c : Prop} [Decidable c] {e : Status} {s t : State} {n : Nat} {x : BitVec 32}
    (he : e.code ≠ 0) (hx : ¬c → t.crValue n = x) (h : (if c then s.raise e else t).rstat = 0) :
    (if c then s.raise e else t).crValue n = x := by
  by_cases hc : c
  · rw [if_pos hc] at h
    exact absurd h he
  · rw [if_neg hc]
    exact hx hc

/-- Every register's legal values fit its field, so an accepted write is read back whole. -/
theorem State.crValue_crWrite {s : State} {v : BitVec 16} {n : Nat} (h : (s.crWrite v n).rstat = 0) :
    (s.crWrite v n).crValue n = v.setWidth 32 := by
  match n with
  | 0 =>
    refine State.crValue_of_not_raised (e := .invalidChannel) (by decide) (fun hv => ?_) h
    exact setWidth_of_fits (show v.toNat < 2 ^ 5 by omega)
  | 1 | 2 =>
    refine State.crValue_of_not_raised (e := .outOfRange) (by decide) (fun hv => ?_) h
    exact setWidth_of_fits (show v.toNat < 2 ^ 7 by omega)
  | 3 =>
    refine State.crValue_of_not_raised (e := .outOfRange) (by decide) (fun hv => ?_) h
    exact setWidth_of_fits (show v.toNat < 2 ^ 6 by omega)
  | n + 4 =>
    rw [s.crWrite_of_readOnly (Nat.le_add_left 4 n)] at h
    exact absurd h (show 7#4 ≠ 0 by decide)

/-- Settles O14: a register above 7 accepts no write; an accepted write up to 7 is read back. -/
theorem crReadsBackWhatWasWritten : Obligations.CrReadsBackWhatWasWritten := by
  intro s t r v hwrite hok
  obtain hr | hr := Nat.lt_or_ge 7 r.toNat
  · rw [exec_crWr_above hr] at hwrite
    cases hwrite
    exact absurd hok (show 8#4 ≠ 0 by decide)
  · rw [exec_crWr hr] at hwrite
    cases hwrite
    rw [exec_crRd hr, State.crValue_crWrite hok]

/-! ## NOP, CR_RD and CR_WR -/

/-- Settles O11: NOP's row fixes every bit of the word. -/
theorem nopOnlyAnswers : Obligations.NopOnlyAnswers := by
  refine ⟨fun _ => rfl, decodeEncodeAgree .nop, fun w hop hw => decode_eq_reservedBits_iff.mpr ?_⟩
  refine ⟨⟨.nop, 0x00#6, 0#32, 0xFFFFFFFF#32⟩, by decide, hop.symm, ?_⟩
  have hall : w &&& 0xFFFFFFFF#32 = w := BitVec.and_allOnes
  rwa [hall]

/-- Settles O12: past the register check, with the packed registers by their values. -/
theorem crRdReturnsTheRegister : Obligations.CrRdReturnsTheRegister := by
  intro s
  rw [← s.rxstat_eq_ofNat, ← s.txa.packed_eq_ofNat, ← s.txs.packed_eq_ofNat]
  simp only [BitVec.ofNat_toNat]
  exact ⟨exec_crRd (by decide) s, exec_crRd (by decide) s, exec_crRd (by decide) s, exec_crRd (by decide) s,
    exec_crRd (by decide) s, exec_crRd (by decide) s, exec_crRd (by decide) s, exec_crRd (by decide) s,
    fun _ hr => exec_crRd_above hr s⟩

/-- Settles O13: the register check, the read-only registers, and the check of each writable register's value. -/
theorem crWrWritesLegalValuesOnly : Obligations.CrWrWritesLegalValuesOnly := by
  intro s r v
  simp only [BitVec.ofNat_toNat]
  exact ⟨fun hr => exec_crWr_above hr v s,
    fun ⟨hlo, hhi⟩ => (exec_crWr hhi v s).trans (next_congr (s.crWrite_of_readOnly hlo v)),
    exec_crWr (by decide) v s, exec_crWr (by decide) v s, exec_crWr (by decide) v s, exec_crWr (by decide) v s⟩

end Sys2Proof.Machine
end

section
/-! PROOFS. How a command ends (60_exceptions.md R250 to R255), read off what a command can do, and the two ways a step runs
no command: idling (R261) and the refusal of an illegal configuration (00_scope.md R7). -/

namespace Sys2Proof.Machine

/-! ## How a command ends -/

/-- Every effect but the refusal answers OK, and the refusal only answers (60_exceptions.md R251). -/
theorem CommandEffect.eq_answer_of_error {i : Instr} {s t : State} (h : CommandEffect s i t) (herr : t.rstat ≠ 0) :
    t = s.answer t.rstat 0 := by
  cases h with
  | refused => rfl
  | _ => exact absurd rfl herr

/-- Settles O50: the command completes with one of its effects, and each effect's status is in the table. -/
theorem everyCommandCompletesWithAStatusOfTheTable : Obligations.EveryCommandCompletesWithAStatusOfTheTable := by
  intro i s
  obtain ⟨t, hexec, heffect⟩ := CommandEffect.exec_completes i s
  exact ⟨t, hexec, heffect.status⟩

/-- Settles O51: of a command's effects only the refusal has a status other than OK. -/
theorem errorsChangeNothingElse : Obligations.ErrorsChangeNothingElse :=
  fun _ _ _ hexec herr => (CommandEffect.of_exec hexec).eq_answer_of_error herr

/-! ## A step that runs no command -/

/-- The configuration is checked before the port is looked at (00_scope.md R7, log entry 11). -/
theorem step_illegalConfiguration {s : State} (hl : ¬s.cfg.Legal) : step s = .fault .illegalConfiguration := if_neg hl

/-- Settles O7. -/
theorem stepIdlesAndRefusesIllegalConfigurations : Obligations.StepIdlesAndRefusesIllegalConfigurations :=
  fun _ => ⟨step_idle, step_illegalConfiguration⟩

end Sys2Proof.Machine
end

section
/-! PROOFS. Reset (70_reset_and_hazards.md R280, R281) and the ramp of a zeroed smoother (R290). -/

namespace Sys2Proof.Machine

/-! ## Reset (R280, R281) -/

/-- `step_event` with the event taken by name: the rest of the events stays at the port. -/
theorem step_event_cons {s : State} {e : HostEvent} {rest : List HostEvent} (hl : s.cfg.Legal)
    (hc : s.ports.cmdIn = e :: rest) : step s = serveEvent e (s.setPorts { s.ports with cmdIn := rest }) := by
  rw [step_event hl hc, Ports.takeEvent_cons hc]

/-- Settles O8: the reset reads the configuration and keeps the ports, from which only the event was taken. -/
theorem resetRestoresEveryField : Obligations.ResetRestoresEveryField :=
  fun _ _ hl hc => step_event_cons hl hc

/-- A reset during a command that completes leaves the reset state, whatever the command would have left; of the command
only the ports have seen something (R281). -/
theorem abortWord_of_next {w : Word} {s t : State} (h : runWord w s = .next t) :
    abortWord w s = .next ((State.resetOf s.cfg).setPorts (s.ports.abort t.ports)) := by
  simp only [abortWord, h]
  rfl

/-- Settles O10: the ports are those of the aborted command, whose bytes are a prefix by `Ports.abort_tx`. -/
theorem resetDuringACommandEmitsAPrefix : Obligations.ResetDuringACommandEmitsAPrefix := by
  intro s t w rest hl hc hrun
  obtain ⟨n, htx⟩ := Ports.abort_tx { s.ports with cmdIn := rest } t.ports
  exact ⟨_, n, (step_event_cons hl hc).trans (abortWord_of_next hrun), Ports.abort_cmdIn _ _, htx⟩

/-! ## The ramp (R290) -/

/-- The running sum is that of the window's samples, in the order they came. -/
theorem Channel.Inv.smSum_toNat_eq_window_sum {n : Nat} {c : Channel} (h : c.Inv n) :
    c.smSum.toNat = (c.window.map BitVec.toNat).sum := by
  obtain ⟨-, hsum, -, -⟩ := h
  exact hsum.trans ((List.rotate_perm c.smBuf c.smIdx.toNat).map BitVec.toNat).sum_eq.symm

/-- The channel with the calibration range of the reset state, whose smoother is the channel's. -/
def Channel.uncalibrated (c : Channel) : Channel := { c with calMin := BitVec.ofNat 10 Config.maxRaw, calMax := 0 }

/-- The smoother reads no calibration, so its samples act alike without one. -/
theorem Channel.uncalibrated_feed (c : Channel) (n : Nat) (samples : List (BitVec 10)) :
    c.uncalibrated.feed n samples = (c.feed n samples).uncalibrated :=
  List.foldl_hom Channel.uncalibrated fun _ _ => rfl

section Zeroed

variable {n : Nat} {c : Channel}

theorem Channel.uncalibrated_inv_of_zeroed (hn : 0 < n) (hbuf : c.smBuf = List.replicate n 0) (hsum : c.smSum = 0)
    (hidx : c.smIdx = 0) : c.uncalibrated.Inv n := by
  refine ⟨?_, ?_, ?_, .inr ⟨rfl, rfl⟩⟩
  · simp [Channel.uncalibrated, hbuf]
  · simp [Channel.uncalibrated, hbuf, hsum]
  · simpa [Channel.uncalibrated, hidx] using hn

/-- While the samples are no more than the window holds, they are in it after what is left of the zeros. -/
theorem Channel.Inv.feed_window_of_zeroed (h : c.Inv n) (hn : n ≤ 1024) (hbuf : c.smBuf = List.replicate n 0)
    {samples : List (BitVec 10)} (hlen : samples.length ≤ n) :
    (c.feed n samples).window = List.replicate (n - samples.length) 0 ++ samples := by
  have hzero : c.window = List.replicate n 0 := by rw [Channel.window, hbuf, List.rotate_replicate]
  rw [h.feed_window hn, hzero, List.drop_append_of_le_length (by simpa using hlen), List.drop_replicate]

end Zeroed

/-- Settles O26: the window holds zeros and the samples so far, so its sum is theirs. -/
theorem smootherRampsFromAZeroedWindow : Obligations.SmootherRampsFromAZeroedWindow := by
  intro n c samples hpos hn hlen hbuf hsum hidx
  have hinv : c.uncalibrated.Inv n := Channel.uncalibrated_inv_of_zeroed hpos hbuf hsum hidx
  have hfed : (c.uncalibrated.feed n samples).Inv n := hinv.feed hn samples
  calc ((c.feed n samples).smoothed n).toNat
      = ((c.uncalibrated.feed n samples).smoothed n).toNat := by rw [Channel.uncalibrated_feed]; rfl
    _ = ((c.uncalibrated.feed n samples).window.map BitVec.toNat).sum / n := by
        rw [hfed.smoothed_toNat, hfed.smSum_toNat_eq_window_sum]
    _ = (samples.map BitVec.toNat).sum / n := by
        rw [hinv.feed_window_of_zeroed hn hbuf hlen]
        simp

end Sys2Proof.Machine
end
